-- ==== Sys2Proof/Word.lean ====
section
/-! DEFINITION. The widths of the data the codec works on (00_scope.md R7, 30_encoding.md R44 to R47). -/

namespace Sys2Proof

/-- A 32-bit word: an integer `i32` (30_encoding.md R44) or a zig-zag word `u32` (R45); the rule that uses it says which. -/
abbrev Word := BitVec 32

/-- A character code on a port (20_memory.md R30, R31). -/
abbrev CharCode := BitVec 8

/-- A digit: continuation bit in bit 5, payload in bits 4:0 (30_encoding.md R46). -/
abbrev Digit := BitVec 6

/-- The payload of a digit (30_encoding.md R46). -/
abbrev Payload := BitVec 5

/-- A symbol value, a position in the alphabet (30_encoding.md R47). -/
abbrev Symbol := BitVec 7

end Sys2Proof
end

