-- ==== Sys2Proof/Config.lean ====
section
/-! DEFINITION. The parameters of the block with the values the hardware takes (00_scope.md R7). No parameter is free: no rule
leaves a result of an operation open. -/

namespace Sys2Proof.Config

/-- `MININT` = -2^31 (00_scope.md R7, 10_state.md R24). -/
def minInt : Word := 0x80000000#32

/-- `MAXINT` = 2^31 - 1. It appears in no rule of the logic (10_state.md R24). -/
def maxInt : Word := 0x7FFFFFFF#32

/-- `PAYLOAD_BITS`: payload bits per digit, the distance of one shift. -/
def payloadBits : Nat := 5

/-- `SHIFT_SAT`: the value at which `DEC.SHIFT` stops growing (10_state.md R18). -/
def shiftSat : Nat := 35

/-- `NSYM`: the number of symbols of the alphabet. -/
def nsym : Nat := 65

/-- `MAXGROUP`: the most digits the encoder emits for one integer. -/
def maxGroup : Nat := 7

end Sys2Proof.Config
end

