-- ==== Sys2Proof/Machine/Roms.lean ====
section
/-! DEFINITION. The two read-only tables, 20_memory.md R29 to R32. -/

namespace Sys2Proof.Machine

/-- The forward ROM `ALPHA`: the code of the character at a position 0 to 64 (20_memory.md R30). -/
def alpha (i : Fin Config.nsym) : CharCode :=
  if i.val < 26 then BitVec.ofNat 8 (0x41 + i.val)
  else if i.val < 52 then BitVec.ofNat 8 (0x61 + (i.val - 26))
  else if i.val < 62 then BitVec.ofNat 8 (0x30 + (i.val - 52))
  else if i.val = 62 then 0x2B#8
  else if i.val = 63 then 0x2F#8
  else 0x3D#8

/-- The encoder's read of `ALPHA`: its index is a digit, so 0 to 63 (40_encoder.md R69, R70, R77). -/
def alphaDigit (d : Digit) : CharCode := alpha ⟨d.toNat, Nat.lt_trans d.isLt (by decide)⟩

/-- One entry of the inverse ROM: `valid` and the symbol value (20_memory.md R31). -/
structure InvEntry where
  valid : Bool
  val : Symbol
  deriving DecidableEq, Repr

/-- The inverse ROM `INV`, total on the 256 codes; `val` is 0 where `valid` is 0 (20_memory.md R31). -/
def inv (c : CharCode) : InvEntry :=
  if c = 0x2B#8 then ⟨true, 62#7⟩
  else if c = 0x2F#8 then ⟨true, 63#7⟩
  else if 0x30 ≤ c.toNat ∧ c.toNat ≤ 0x39 then ⟨true, BitVec.ofNat 7 (c.toNat - 0x30 + 52)⟩
  else if c = 0x3D#8 then ⟨true, 64#7⟩
  else if 0x41 ≤ c.toNat ∧ c.toNat ≤ 0x5A then ⟨true, BitVec.ofNat 7 (c.toNat - 0x41)⟩
  else if 0x61 ≤ c.toNat ∧ c.toNat ≤ 0x7A then ⟨true, BitVec.ofNat 7 (c.toNat - 0x61 + 26)⟩
  else ⟨false, 0#7⟩

end Sys2Proof.Machine
end

