-- ==== Sys2Proof/Syntax.lean ====
section
/-! DEFINITION. The syntax of the block: the tokens of its four streams as bits (30_encoding.md R49 to R52), what the
output tokens say, and `Instr`, one constructor for each row of spec/opcode_table.json. -/

namespace Sys2Proof

/-- One token of a stream, as the bits the stream carries (30_encoding.md R49 to R52; the streams are 20_memory.md R33). -/
inductive Token where
  /-- `ENC_IN`, 32 bits (R49). -/
  | encIn (bits : BitVec 32)
  /-- `DEC_IN`, 9 bits: `eos` in bit 8, `char` in bits 7:0 (R51). -/
  | decIn (bits : BitVec 9)
  /-- `ENC_OUT`, 9 bits: `last` in bit 8, `char` in bits 7:0 (R50). -/
  | encOut (bits : BitVec 9)
  /-- `DEC_OUT`, 33 bits: `done` in bit 32, `data` in bits 31:0 (R52). -/
  | decOut (bits : BitVec 33)
  deriving DecidableEq, Repr

/-- What an `ENC_OUT` token says (30_encoding.md R50). -/
structure EncOut where
  /-- 1 when the character is the last of its group -/
  last : Bool
  /-- the character code -/
  char : CharCode
  deriving DecidableEq, Repr

/-- What a `DEC_OUT` token says (30_encoding.md R52): a decoded integer, or the verdict of a string. -/
inductive DecOut where
  | word (data : Word)
  | done (ok : Bool)
  deriving DecidableEq, Repr

/-- The operations, internal steps, operand forms, output tokens and pseudo-operations of the opcode table. -/
inductive Instr where
  /-- `ENC.WORD n` (40_encoder.md R73) -/
  | encWord (n : Word)
  /-- `ENC.ACCEPT`, taking the token `n` (R74) -/
  | encAccept (n : Word)
  /-- `ENC.EMIT` (R75) -/
  | encEmit
  /-- `DEC.CHAR c` (41_decoder.md R85) -/
  | decChar (c : CharCode)
  /-- `DEC.EOS`; `ignored` is the token's `char` field (R86, R62) -/
  | decEos (ignored : CharCode)
  /-- `DEC.CHAR` of `A` (0x41, symbol 0) -/
  | decCharUpperA
  /-- `DEC.CHAR` of `B` (0x42, symbol 1) -/
  | decCharUpperB
  /-- `DEC.CHAR` of `C` (0x43, symbol 2) -/
  | decCharUpperC
  /-- `DEC.CHAR` of `D` (0x44, symbol 3) -/
  | decCharUpperD
  /-- `DEC.CHAR` of `E` (0x45, symbol 4) -/
  | decCharUpperE
  /-- `DEC.CHAR` of `F` (0x46, symbol 5) -/
  | decCharUpperF
  /-- `DEC.CHAR` of `G` (0x47, symbol 6) -/
  | decCharUpperG
  /-- `DEC.CHAR` of `H` (0x48, symbol 7) -/
  | decCharUpperH
  /-- `DEC.CHAR` of `I` (0x49, symbol 8) -/
  | decCharUpperI
  /-- `DEC.CHAR` of `J` (0x4A, symbol 9) -/
  | decCharUpperJ
  /-- `DEC.CHAR` of `K` (0x4B, symbol 10) -/
  | decCharUpperK
  /-- `DEC.CHAR` of `L` (0x4C, symbol 11) -/
  | decCharUpperL
  /-- `DEC.CHAR` of `M` (0x4D, symbol 12) -/
  | decCharUpperM
  /-- `DEC.CHAR` of `N` (0x4E, symbol 13) -/
  | decCharUpperN
  /-- `DEC.CHAR` of `O` (0x4F, symbol 14) -/
  | decCharUpperO
  /-- `DEC.CHAR` of `P` (0x50, symbol 15) -/
  | decCharUpperP
  /-- `DEC.CHAR` of `Q` (0x51, symbol 16) -/
  | decCharUpperQ
  /-- `DEC.CHAR` of `R` (0x52, symbol 17) -/
  | decCharUpperR
  /-- `DEC.CHAR` of `S` (0x53, symbol 18) -/
  | decCharUpperS
  /-- `DEC.CHAR` of `T` (0x54, symbol 19) -/
  | decCharUpperT
  /-- `DEC.CHAR` of `U` (0x55, symbol 20) -/
  | decCharUpperU
  /-- `DEC.CHAR` of `V` (0x56, symbol 21) -/
  | decCharUpperV
  /-- `DEC.CHAR` of `W` (0x57, symbol 22) -/
  | decCharUpperW
  /-- `DEC.CHAR` of `X` (0x58, symbol 23) -/
  | decCharUpperX
  /-- `DEC.CHAR` of `Y` (0x59, symbol 24) -/
  | decCharUpperY
  /-- `DEC.CHAR` of `Z` (0x5A, symbol 25) -/
  | decCharUpperZ
  /-- `DEC.CHAR` of `a` (0x61, symbol 26) -/
  | decCharLowerA
  /-- `DEC.CHAR` of `b` (0x62, symbol 27) -/
  | decCharLowerB
  /-- `DEC.CHAR` of `c` (0x63, symbol 28) -/
  | decCharLowerC
  /-- `DEC.CHAR` of `d` (0x64, symbol 29) -/
  | decCharLowerD
  /-- `DEC.CHAR` of `e` (0x65, symbol 30) -/
  | decCharLowerE
  /-- `DEC.CHAR` of `f` (0x66, symbol 31) -/
  | decCharLowerF
  /-- `DEC.CHAR` of `g` (0x67, symbol 32) -/
  | decCharLowerG
  /-- `DEC.CHAR` of `h` (0x68, symbol 33) -/
  | decCharLowerH
  /-- `DEC.CHAR` of `i` (0x69, symbol 34) -/
  | decCharLowerI
  /-- `DEC.CHAR` of `j` (0x6A, symbol 35) -/
  | decCharLowerJ
  /-- `DEC.CHAR` of `k` (0x6B, symbol 36) -/
  | decCharLowerK
  /-- `DEC.CHAR` of `l` (0x6C, symbol 37) -/
  | decCharLowerL
  /-- `DEC.CHAR` of `m` (0x6D, symbol 38) -/
  | decCharLowerM
  /-- `DEC.CHAR` of `n` (0x6E, symbol 39) -/
  | decCharLowerN
  /-- `DEC.CHAR` of `o` (0x6F, symbol 40) -/
  | decCharLowerO
  /-- `DEC.CHAR` of `p` (0x70, symbol 41) -/
  | decCharLowerP
  /-- `DEC.CHAR` of `q` (0x71, symbol 42) -/
  | decCharLowerQ
  /-- `DEC.CHAR` of `r` (0x72, symbol 43) -/
  | decCharLowerR
  /-- `DEC.CHAR` of `s` (0x73, symbol 44) -/
  | decCharLowerS
  /-- `DEC.CHAR` of `t` (0x74, symbol 45) -/
  | decCharLowerT
  /-- `DEC.CHAR` of `u` (0x75, symbol 46) -/
  | decCharLowerU
  /-- `DEC.CHAR` of `v` (0x76, symbol 47) -/
  | decCharLowerV
  /-- `DEC.CHAR` of `w` (0x77, symbol 48) -/
  | decCharLowerW
  /-- `DEC.CHAR` of `x` (0x78, symbol 49) -/
  | decCharLowerX
  /-- `DEC.CHAR` of `y` (0x79, symbol 50) -/
  | decCharLowerY
  /-- `DEC.CHAR` of `z` (0x7A, symbol 51) -/
  | decCharLowerZ
  /-- `DEC.CHAR` of `0` (0x30, symbol 52) -/
  | decCharDigit0
  /-- `DEC.CHAR` of `1` (0x31, symbol 53) -/
  | decCharDigit1
  /-- `DEC.CHAR` of `2` (0x32, symbol 54) -/
  | decCharDigit2
  /-- `DEC.CHAR` of `3` (0x33, symbol 55) -/
  | decCharDigit3
  /-- `DEC.CHAR` of `4` (0x34, symbol 56) -/
  | decCharDigit4
  /-- `DEC.CHAR` of `5` (0x35, symbol 57) -/
  | decCharDigit5
  /-- `DEC.CHAR` of `6` (0x36, symbol 58) -/
  | decCharDigit6
  /-- `DEC.CHAR` of `7` (0x37, symbol 59) -/
  | decCharDigit7
  /-- `DEC.CHAR` of `8` (0x38, symbol 60) -/
  | decCharDigit8
  /-- `DEC.CHAR` of `9` (0x39, symbol 61) -/
  | decCharDigit9
  /-- `DEC.CHAR` of `+` (0x2B, symbol 62) -/
  | decCharPlus
  /-- `DEC.CHAR` of `/` (0x2F, symbol 63) -/
  | decCharSlash
  /-- `DEC.CHAR` of `=` (0x3D, symbol 64) -/
  | decCharEquals
  /-- `DEC.CHAR` of a code outside the alphabet (R60) -/
  | decCharOutside (c : CharCode)
  /-- the output token `CHAR` crossing `ENC_OUT` (R50) -/
  | charToken (last : Bool) (c : CharCode)
  /-- the output token `WORD` crossing `DEC_OUT` (R52) -/
  | wordToken (data : Word)
  /-- the output token `DONE` crossing `DEC_OUT` (R52) -/
  | doneToken (ok : Bool)
  /-- `ENCODE [n_1, ..., n_k]` (R64) -/
  | encode (ns : List Word)
  /-- `ENCODE1 n` (R64) -/
  | encode1 (n : Word)
  /-- `DECODE "c_1 ... c_L"` (R64) -/
  | decode (cs : List CharCode)
  deriving DecidableEq, Repr

end Sys2Proof
end

