-- ==== Sys2Proof/Machine/Operands.lean ====
section
/-! DEFINITION. The operand forms: a digit's fields (30_encoding.md R46), and the character operand of `DEC.CHAR` with its lookup,
its split and its class (41_decoder.md R79, R80; 30_encoding.md R54). -/

namespace Sys2Proof.Machine

/-- The digit with continuation bit `c` and payload `p` (30_encoding.md R46). -/
def mkDigit (c : Bool) (p : Payload) : Digit := BitVec.ofBool c ++ p

/-- `Lookup`: the symbol value of a character of the alphabet (41_decoder.md R79). -/
def lookup (c : CharCode) : Option Symbol := if (inv c).valid then some (inv c).val else none

/-- The continuation flag of a symbol value, its bit 5 (41_decoder.md R80). -/
def contOf (v : Symbol) : Bool := v.getLsbD 5

/-- The payload of a symbol value, its bits 4:0; bit 6 is not read (41_decoder.md R80). -/
def payloadOf (v : Symbol) : Payload := v.extractLsb' 0 5

/-- The four classes of the operand of `DEC.CHAR` (30_encoding.md R54). -/
inductive CharClass where
  | terminating
  | continuation
  | reserved
  | invalid
  deriving DecidableEq, Repr

/-- The class of a character code (30_encoding.md R54). -/
def classOf (c : CharCode) : CharClass :=
  match lookup c with
  | none => .invalid
  | some v => if v = 64#7 then .reserved else if contOf v then .continuation else .terminating

/-- The `ENC_OUT` tokens the encoder can form: a digit's character, with `last` = NOT `C` (30_encoding.md R50; 40_encoder.md R70). -/
def encOutLegal (t : EncOut) : Bool :=
  match lookup t.char with
  | none => false
  | some v => decide (v.toNat ≤ 63) && (t.last == !contOf v)

end Sys2Proof.Machine
end

