-- ==== Sys2Proof/WellFormed.lean ====
section
/-! DEFINITION. Which terms of `Instr` stand for something of the opcode table: the operand of the form "code outside the
alphabet" is one of the 191 invalid codes (30_encoding.md R60), and the fields of a `CHAR` token are a digit's (R50). -/

namespace Sys2Proof

/-- The check, one line per constructor; every other operand fits its field by its type. -/
def Instr.wellFormed : Instr → Bool
  | .encWord _ => true
  | .encAccept _ => true
  | .encEmit => true
  | .decChar _ => true
  | .decEos _ => true
  | .decCharUpperA => true
  | .decCharUpperB => true
  | .decCharUpperC => true
  | .decCharUpperD => true
  | .decCharUpperE => true
  | .decCharUpperF => true
  | .decCharUpperG => true
  | .decCharUpperH => true
  | .decCharUpperI => true
  | .decCharUpperJ => true
  | .decCharUpperK => true
  | .decCharUpperL => true
  | .decCharUpperM => true
  | .decCharUpperN => true
  | .decCharUpperO => true
  | .decCharUpperP => true
  | .decCharUpperQ => true
  | .decCharUpperR => true
  | .decCharUpperS => true
  | .decCharUpperT => true
  | .decCharUpperU => true
  | .decCharUpperV => true
  | .decCharUpperW => true
  | .decCharUpperX => true
  | .decCharUpperY => true
  | .decCharUpperZ => true
  | .decCharLowerA => true
  | .decCharLowerB => true
  | .decCharLowerC => true
  | .decCharLowerD => true
  | .decCharLowerE => true
  | .decCharLowerF => true
  | .decCharLowerG => true
  | .decCharLowerH => true
  | .decCharLowerI => true
  | .decCharLowerJ => true
  | .decCharLowerK => true
  | .decCharLowerL => true
  | .decCharLowerM => true
  | .decCharLowerN => true
  | .decCharLowerO => true
  | .decCharLowerP => true
  | .decCharLowerQ => true
  | .decCharLowerR => true
  | .decCharLowerS => true
  | .decCharLowerT => true
  | .decCharLowerU => true
  | .decCharLowerV => true
  | .decCharLowerW => true
  | .decCharLowerX => true
  | .decCharLowerY => true
  | .decCharLowerZ => true
  | .decCharDigit0 => true
  | .decCharDigit1 => true
  | .decCharDigit2 => true
  | .decCharDigit3 => true
  | .decCharDigit4 => true
  | .decCharDigit5 => true
  | .decCharDigit6 => true
  | .decCharDigit7 => true
  | .decCharDigit8 => true
  | .decCharDigit9 => true
  | .decCharPlus => true
  | .decCharSlash => true
  | .decCharEquals => true
  | .decCharOutside c => !(Machine.inv c).valid
  | .charToken last c => Machine.encOutLegal ⟨last, c⟩
  | .wordToken _ => true
  | .doneToken _ => true
  | .encode _ => true
  | .encode1 _ => true
  | .decode _ => true

end Sys2Proof
end

