-- ==== Sys2Proof/Decode.lean ====
section
/-! DEFINITION. From the bits of a token to the instruction they stand for, and back (30_encoding.md R49 to R54). -/

namespace Sys2Proof

/-- Why the bits of a token stand for nothing. Only output tokens can be refused: every input token has a meaning (R54, R62). -/
inductive DecodeError where
  /-- no digit's character and `last` bit: ENC emits no such token (R50, R70) -/
  | noDigitOfEnc
  /-- a verdict with a bit of 31:1 set: DEC emits no such token (R52, R62) -/
  | verdictBitsSet
  deriving DecidableEq, Repr

/-- The bits of an `ENC_OUT` token (R50). -/
def EncOut.bits (t : EncOut) : BitVec 9 := BitVec.ofBool t.last ++ t.char

/-- The bits of a `DEC_OUT` token (R52). -/
def DecOut.bits : DecOut → BitVec 33
  | .word d => 0#1 ++ d
  | .done ok => 1#1 ++ (0#31 ++ BitVec.ofBool ok)

/-- The bits of a `DEC_IN` token (R51). -/
def decInBits (eos : Bool) (c : CharCode) : BitVec 9 := BitVec.ofBool eos ++ c

/-- The `eos` field of a `DEC_IN` token, which selects the operation (R51, R54). -/
def decInEosOf (t : BitVec 9) : Bool := t.getLsbD 8

/-- The `char` field of a `DEC_IN` token (R51). -/
def decInCharOf (t : BitVec 9) : CharCode := t.extractLsb' 0 8

/-- Rows 0 to 12 of the alphabet as operand forms of `DEC.CHAR`. -/
def charForms1 : List (CharCode × Instr) := [
  (0x41#8, .decCharUpperA),
  (0x42#8, .decCharUpperB),
  (0x43#8, .decCharUpperC),
  (0x44#8, .decCharUpperD),
  (0x45#8, .decCharUpperE),
  (0x46#8, .decCharUpperF),
  (0x47#8, .decCharUpperG),
  (0x48#8, .decCharUpperH),
  (0x49#8, .decCharUpperI),
  (0x4A#8, .decCharUpperJ),
  (0x4B#8, .decCharUpperK),
  (0x4C#8, .decCharUpperL),
  (0x4D#8, .decCharUpperM)]

/-- Rows 13 to 25 of the alphabet as operand forms of `DEC.CHAR`. -/
def charForms2 : List (CharCode × Instr) := [
  (0x4E#8, .decCharUpperN),
  (0x4F#8, .decCharUpperO),
  (0x50#8, .decCharUpperP),
  (0x51#8, .decCharUpperQ),
  (0x52#8, .decCharUpperR),
  (0x53#8, .decCharUpperS),
  (0x54#8, .decCharUpperT),
  (0x55#8, .decCharUpperU),
  (0x56#8, .decCharUpperV),
  (0x57#8, .decCharUpperW),
  (0x58#8, .decCharUpperX),
  (0x59#8, .decCharUpperY),
  (0x5A#8, .decCharUpperZ)]

/-- Rows 26 to 38 of the alphabet as operand forms of `DEC.CHAR`. -/
def charForms3 : List (CharCode × Instr) := [
  (0x61#8, .decCharLowerA),
  (0x62#8, .decCharLowerB),
  (0x63#8, .decCharLowerC),
  (0x64#8, .decCharLowerD),
  (0x65#8, .decCharLowerE),
  (0x66#8, .decCharLowerF),
  (0x67#8, .decCharLowerG),
  (0x68#8, .decCharLowerH),
  (0x69#8, .decCharLowerI),
  (0x6A#8, .decCharLowerJ),
  (0x6B#8, .decCharLowerK),
  (0x6C#8, .decCharLowerL),
  (0x6D#8, .decCharLowerM)]

/-- Rows 39 to 51 of the alphabet as operand forms of `DEC.CHAR`. -/
def charForms4 : List (CharCode × Instr) := [
  (0x6E#8, .decCharLowerN),
  (0x6F#8, .decCharLowerO),
  (0x70#8, .decCharLowerP),
  (0x71#8, .decCharLowerQ),
  (0x72#8, .decCharLowerR),
  (0x73#8, .decCharLowerS),
  (0x74#8, .decCharLowerT),
  (0x75#8, .decCharLowerU),
  (0x76#8, .decCharLowerV),
  (0x77#8, .decCharLowerW),
  (0x78#8, .decCharLowerX),
  (0x79#8, .decCharLowerY),
  (0x7A#8, .decCharLowerZ)]

/-- Rows 52 to 64 of the alphabet as operand forms of `DEC.CHAR`. -/
def charForms5 : List (CharCode × Instr) := [
  (0x30#8, .decCharDigit0),
  (0x31#8, .decCharDigit1),
  (0x32#8, .decCharDigit2),
  (0x33#8, .decCharDigit3),
  (0x34#8, .decCharDigit4),
  (0x35#8, .decCharDigit5),
  (0x36#8, .decCharDigit6),
  (0x37#8, .decCharDigit7),
  (0x38#8, .decCharDigit8),
  (0x39#8, .decCharDigit9),
  (0x2B#8, .decCharPlus),
  (0x2F#8, .decCharSlash),
  (0x3D#8, .decCharEquals)]

/-- The 65 rows of the opcode table that fix the operand of `DEC.CHAR`. -/
def charForms : List (CharCode × Instr) := charForms1 ++ charForms2 ++ charForms3 ++ charForms4 ++ charForms5

/-- The instruction of a `DEC_IN` token with `eos` = 0: the row of its own code where the table has one, else `DEC.CHAR c`. -/
def decodeChar (c : CharCode) : Instr := (charForms.lookup c).getD (.decChar c)

/-- The instruction of a `DEC_IN` token; bit 8 selects (R51, R54). -/
def decodeDecIn (t : BitVec 9) : Instr :=
  if decInEosOf t then .decEos (decInCharOf t) else decodeChar (decInCharOf t)

/-- What an `ENC_OUT` token says; only a digit's character with its `last` bit is a token of this stream (R50). -/
def decodeEncOut (t : BitVec 9) : Except DecodeError Instr :=
  let o : EncOut := ⟨t.getLsbD 8, t.extractLsb' 0 8⟩
  if Machine.encOutLegal o then .ok (.charToken o.last o.char) else .error .noDigitOfEnc

/-- What a `DEC_OUT` token says; bits 31:1 of a verdict are 0 (R52). -/
def decodeDecOut (t : BitVec 33) : Except DecodeError Instr :=
  if t.getLsbD 32 then
    if t.extractLsb' 1 31 = 0#31 then .ok (.doneToken (t.getLsbD 0)) else .error .verdictBitsSet
  else .ok (.wordToken (t.extractLsb' 0 32))

/-- The instruction a token stands for. Every `ENC_IN` token is `ENC.WORD` (R49, R54). -/
def decodeToken : Token → Except DecodeError Instr
  | .encIn n => .ok (.encWord n)
  | .decIn t => .ok (decodeDecIn t)
  | .encOut t => decodeEncOut t
  | .decOut t => decodeDecOut t

/-- The tokens an instruction is offered or carried as (R49 to R52), in order; a pseudo-operation gives the tokens of its
expansion (R64) and `ENC.EMIT`, which has no encoding, gives none (R75). -/
def encodeInstr : Instr → List Token
  | .encWord n => [.encIn n]
  | .encAccept n => [.encIn n]
  | .encEmit => []
  | .decChar c => [.decIn (decInBits false c)]
  | .decEos c => [.decIn (decInBits true c)]
  | .decCharUpperA => [.decIn (decInBits false 0x41#8)]
  | .decCharUpperB => [.decIn (decInBits false 0x42#8)]
  | .decCharUpperC => [.decIn (decInBits false 0x43#8)]
  | .decCharUpperD => [.decIn (decInBits false 0x44#8)]
  | .decCharUpperE => [.decIn (decInBits false 0x45#8)]
  | .decCharUpperF => [.decIn (decInBits false 0x46#8)]
  | .decCharUpperG => [.decIn (decInBits false 0x47#8)]
  | .decCharUpperH => [.decIn (decInBits false 0x48#8)]
  | .decCharUpperI => [.decIn (decInBits false 0x49#8)]
  | .decCharUpperJ => [.decIn (decInBits false 0x4A#8)]
  | .decCharUpperK => [.decIn (decInBits false 0x4B#8)]
  | .decCharUpperL => [.decIn (decInBits false 0x4C#8)]
  | .decCharUpperM => [.decIn (decInBits false 0x4D#8)]
  | .decCharUpperN => [.decIn (decInBits false 0x4E#8)]
  | .decCharUpperO => [.decIn (decInBits false 0x4F#8)]
  | .decCharUpperP => [.decIn (decInBits false 0x50#8)]
  | .decCharUpperQ => [.decIn (decInBits false 0x51#8)]
  | .decCharUpperR => [.decIn (decInBits false 0x52#8)]
  | .decCharUpperS => [.decIn (decInBits false 0x53#8)]
  | .decCharUpperT => [.decIn (decInBits false 0x54#8)]
  | .decCharUpperU => [.decIn (decInBits false 0x55#8)]
  | .decCharUpperV => [.decIn (decInBits false 0x56#8)]
  | .decCharUpperW => [.decIn (decInBits false 0x57#8)]
  | .decCharUpperX => [.decIn (decInBits false 0x58#8)]
  | .decCharUpperY => [.decIn (decInBits false 0x59#8)]
  | .decCharUpperZ => [.decIn (decInBits false 0x5A#8)]
  | .decCharLowerA => [.decIn (decInBits false 0x61#8)]
  | .decCharLowerB => [.decIn (decInBits false 0x62#8)]
  | .decCharLowerC => [.decIn (decInBits false 0x63#8)]
  | .decCharLowerD => [.decIn (decInBits false 0x64#8)]
  | .decCharLowerE => [.decIn (decInBits false 0x65#8)]
  | .decCharLowerF => [.decIn (decInBits false 0x66#8)]
  | .decCharLowerG => [.decIn (decInBits false 0x67#8)]
  | .decCharLowerH => [.decIn (decInBits false 0x68#8)]
  | .decCharLowerI => [.decIn (decInBits false 0x69#8)]
  | .decCharLowerJ => [.decIn (decInBits false 0x6A#8)]
  | .decCharLowerK => [.decIn (decInBits false 0x6B#8)]
  | .decCharLowerL => [.decIn (decInBits false 0x6C#8)]
  | .decCharLowerM => [.decIn (decInBits false 0x6D#8)]
  | .decCharLowerN => [.decIn (decInBits false 0x6E#8)]
  | .decCharLowerO => [.decIn (decInBits false 0x6F#8)]
  | .decCharLowerP => [.decIn (decInBits false 0x70#8)]
  | .decCharLowerQ => [.decIn (decInBits false 0x71#8)]
  | .decCharLowerR => [.decIn (decInBits false 0x72#8)]
  | .decCharLowerS => [.decIn (decInBits false 0x73#8)]
  | .decCharLowerT => [.decIn (decInBits false 0x74#8)]
  | .decCharLowerU => [.decIn (decInBits false 0x75#8)]
  | .decCharLowerV => [.decIn (decInBits false 0x76#8)]
  | .decCharLowerW => [.decIn (decInBits false 0x77#8)]
  | .decCharLowerX => [.decIn (decInBits false 0x78#8)]
  | .decCharLowerY => [.decIn (decInBits false 0x79#8)]
  | .decCharLowerZ => [.decIn (decInBits false 0x7A#8)]
  | .decCharDigit0 => [.decIn (decInBits false 0x30#8)]
  | .decCharDigit1 => [.decIn (decInBits false 0x31#8)]
  | .decCharDigit2 => [.decIn (decInBits false 0x32#8)]
  | .decCharDigit3 => [.decIn (decInBits false 0x33#8)]
  | .decCharDigit4 => [.decIn (decInBits false 0x34#8)]
  | .decCharDigit5 => [.decIn (decInBits false 0x35#8)]
  | .decCharDigit6 => [.decIn (decInBits false 0x36#8)]
  | .decCharDigit7 => [.decIn (decInBits false 0x37#8)]
  | .decCharDigit8 => [.decIn (decInBits false 0x38#8)]
  | .decCharDigit9 => [.decIn (decInBits false 0x39#8)]
  | .decCharPlus => [.decIn (decInBits false 0x2B#8)]
  | .decCharSlash => [.decIn (decInBits false 0x2F#8)]
  | .decCharEquals => [.decIn (decInBits false 0x3D#8)]
  | .decCharOutside c => [.decIn (decInBits false c)]
  | .charToken last c => [.encOut (EncOut.bits ⟨last, c⟩)]
  | .wordToken d => [.decOut (DecOut.bits (.word d))]
  | .doneToken ok => [.decOut (DecOut.bits (.done ok))]
  | .encode ns => ns.map fun n => .encIn n
  | .encode1 n => [.encIn n]
  | .decode cs => (cs.map fun c => .decIn (decInBits false c)) ++ [.decIn (decInBits true 0#8)]

/-- The operations that the tokens of an instruction stand for, in order, as the decoder names them (R54, R64): an `ENC_IN` token is
the whole `ENC.WORD`, and a character is the row of its own code where the table has one. -/
def Instr.expansion : Instr → List Instr
  | .encWord n => [.encWord n]
  | .encAccept n => [.encWord n]
  | .encEmit => []
  | .decChar c => [decodeChar c]
  | .decEos c => [.decEos c]
  | .decCharUpperA => [.decCharUpperA]
  | .decCharUpperB => [.decCharUpperB]
  | .decCharUpperC => [.decCharUpperC]
  | .decCharUpperD => [.decCharUpperD]
  | .decCharUpperE => [.decCharUpperE]
  | .decCharUpperF => [.decCharUpperF]
  | .decCharUpperG => [.decCharUpperG]
  | .decCharUpperH => [.decCharUpperH]
  | .decCharUpperI => [.decCharUpperI]
  | .decCharUpperJ => [.decCharUpperJ]
  | .decCharUpperK => [.decCharUpperK]
  | .decCharUpperL => [.decCharUpperL]
  | .decCharUpperM => [.decCharUpperM]
  | .decCharUpperN => [.decCharUpperN]
  | .decCharUpperO => [.decCharUpperO]
  | .decCharUpperP => [.decCharUpperP]
  | .decCharUpperQ => [.decCharUpperQ]
  | .decCharUpperR => [.decCharUpperR]
  | .decCharUpperS => [.decCharUpperS]
  | .decCharUpperT => [.decCharUpperT]
  | .decCharUpperU => [.decCharUpperU]
  | .decCharUpperV => [.decCharUpperV]
  | .decCharUpperW => [.decCharUpperW]
  | .decCharUpperX => [.decCharUpperX]
  | .decCharUpperY => [.decCharUpperY]
  | .decCharUpperZ => [.decCharUpperZ]
  | .decCharLowerA => [.decCharLowerA]
  | .decCharLowerB => [.decCharLowerB]
  | .decCharLowerC => [.decCharLowerC]
  | .decCharLowerD => [.decCharLowerD]
  | .decCharLowerE => [.decCharLowerE]
  | .decCharLowerF => [.decCharLowerF]
  | .decCharLowerG => [.decCharLowerG]
  | .decCharLowerH => [.decCharLowerH]
  | .decCharLowerI => [.decCharLowerI]
  | .decCharLowerJ => [.decCharLowerJ]
  | .decCharLowerK => [.decCharLowerK]
  | .decCharLowerL => [.decCharLowerL]
  | .decCharLowerM => [.decCharLowerM]
  | .decCharLowerN => [.decCharLowerN]
  | .decCharLowerO => [.decCharLowerO]
  | .decCharLowerP => [.decCharLowerP]
  | .decCharLowerQ => [.decCharLowerQ]
  | .decCharLowerR => [.decCharLowerR]
  | .decCharLowerS => [.decCharLowerS]
  | .decCharLowerT => [.decCharLowerT]
  | .decCharLowerU => [.decCharLowerU]
  | .decCharLowerV => [.decCharLowerV]
  | .decCharLowerW => [.decCharLowerW]
  | .decCharLowerX => [.decCharLowerX]
  | .decCharLowerY => [.decCharLowerY]
  | .decCharLowerZ => [.decCharLowerZ]
  | .decCharDigit0 => [.decCharDigit0]
  | .decCharDigit1 => [.decCharDigit1]
  | .decCharDigit2 => [.decCharDigit2]
  | .decCharDigit3 => [.decCharDigit3]
  | .decCharDigit4 => [.decCharDigit4]
  | .decCharDigit5 => [.decCharDigit5]
  | .decCharDigit6 => [.decCharDigit6]
  | .decCharDigit7 => [.decCharDigit7]
  | .decCharDigit8 => [.decCharDigit8]
  | .decCharDigit9 => [.decCharDigit9]
  | .decCharPlus => [.decCharPlus]
  | .decCharSlash => [.decCharSlash]
  | .decCharEquals => [.decCharEquals]
  | .decCharOutside c => [.decChar c]
  | .charToken last c => [.charToken last c]
  | .wordToken d => [.wordToken d]
  | .doneToken ok => [.doneToken ok]
  | .encode ns => ns.map .encWord
  | .encode1 n => [.encWord n]
  | .decode cs => cs.map decodeChar ++ [.decEos 0#8]

/-- The instructions that the decoder answers: an internal step, a pseudo-operation, and `DEC.CHAR` of a code that has a row of its
own are not among them. -/
def Instr.hasOwnToken : Instr → Bool
  | .encWord _ => true
  | .encAccept _ => false
  | .encEmit => false
  | .decChar c => !(Machine.inv c).valid
  | .decEos _ => true
  | .decCharUpperA => true
  | .decCharUpperB => true
  | .decCharUpperC => true
  | .decCharUpperD => true
  | .decCharUpperE => true
  | .decCharUpperF => true
  | .decCharUpperG => true
  | .decCharUpperH => true
  | .decCharUpperI => true
  | .decCharUpperJ => true
  | .decCharUpperK => true
  | .decCharUpperL => true
  | .decCharUpperM => true
  | .decCharUpperN => true
  | .decCharUpperO => true
  | .decCharUpperP => true
  | .decCharUpperQ => true
  | .decCharUpperR => true
  | .decCharUpperS => true
  | .decCharUpperT => true
  | .decCharUpperU => true
  | .decCharUpperV => true
  | .decCharUpperW => true
  | .decCharUpperX => true
  | .decCharUpperY => true
  | .decCharUpperZ => true
  | .decCharLowerA => true
  | .decCharLowerB => true
  | .decCharLowerC => true
  | .decCharLowerD => true
  | .decCharLowerE => true
  | .decCharLowerF => true
  | .decCharLowerG => true
  | .decCharLowerH => true
  | .decCharLowerI => true
  | .decCharLowerJ => true
  | .decCharLowerK => true
  | .decCharLowerL => true
  | .decCharLowerM => true
  | .decCharLowerN => true
  | .decCharLowerO => true
  | .decCharLowerP => true
  | .decCharLowerQ => true
  | .decCharLowerR => true
  | .decCharLowerS => true
  | .decCharLowerT => true
  | .decCharLowerU => true
  | .decCharLowerV => true
  | .decCharLowerW => true
  | .decCharLowerX => true
  | .decCharLowerY => true
  | .decCharLowerZ => true
  | .decCharDigit0 => true
  | .decCharDigit1 => true
  | .decCharDigit2 => true
  | .decCharDigit3 => true
  | .decCharDigit4 => true
  | .decCharDigit5 => true
  | .decCharDigit6 => true
  | .decCharDigit7 => true
  | .decCharDigit8 => true
  | .decCharDigit9 => true
  | .decCharPlus => true
  | .decCharSlash => true
  | .decCharEquals => true
  | .decCharOutside _ => false
  | .charToken _ _ => true
  | .wordToken _ => true
  | .doneToken _ => true
  | .encode _ => false
  | .encode1 _ => false
  | .decode _ => false

/-- The token that a table row's bits `w` are, `nbits` being the row's width, also in whole bytes: 32 for `ENC_IN`, 9 (16) for
`DEC_IN`, 33 (40) for `DEC_OUT`. A row without bits (`ENC.EMIT`, the pseudo-operations) is no token. -/
def tokenOfWord (nbits w : Nat) : Option Token :=
  if nbits = 32 ∧ w < 2 ^ 32 then some (.encIn (BitVec.ofNat 32 w))
  else if (nbits = 9 ∨ nbits = 16) ∧ w < 2 ^ 9 then some (.decIn (BitVec.ofNat 9 w))
  else if (nbits = 33 ∨ nbits = 40) ∧ w < 2 ^ 33 then some (.decOut (BitVec.ofNat 33 w))
  else none

/-- The instruction the decoder reads from a table row's bits. -/
def decodeTableWord (nbits w : Nat) : Option Instr :=
  match tokenOfWord nbits w with
  | some t => (decodeToken t).toOption
  | none => none

end Sys2Proof
end

