-- ==== Sys2Proof/Machine/Arith.lean ====
section
/-! DEFINITION. All the arithmetic of the block (42_codec_laws.md R91). -/

namespace Sys2Proof.Machine

/-- `ZZ`, the zig-zag word of an integer, in the three arms of 40_encoder.md R65. -/
def zz (n : Word) : Word :=
  if n.msb = false then n <<< 1
  else if n ≠ Config.minInt then ((-n) <<< 1) ||| 1#32
  else 1#32

/-- `ZZinv`, the integer of a zig-zag word, in the three arms of 41_decoder.md R82. -/
def zzInv (v : Word) : Word :=
  if v.getLsbD 0 = false then v >>> 1
  else if v >>> 1 ≠ 0#32 then -(v >>> 1)
  else Config.minInt

/-- `Acc`: the payload added at the shift, modulo 2^32 (41_decoder.md R81; OVERLONG = truncate, 00_scope.md R7). -/
def acc (value : Word) (shift : BitVec 6) (p : Payload) : Word :=
  BitVec.ofNat 32 (value.toNat + p.toNat * 2 ^ shift.toNat)

/-- The shift after a continuation digit (10_state.md R18). -/
def nextShift (shift : BitVec 6) : BitVec 6 :=
  BitVec.ofNat 6 (min (shift.toNat + Config.payloadBits) Config.shiftSat)

/-- The payload the encoder extracts, `u[4:0]` (40_encoder.md R67, R75). -/
def lowPayload (u : Word) : Payload := u.extractLsb' 0 5

/-- What is left of the zig-zag word after one digit: the unsigned shift (40_encoder.md R67, R75). -/
def restOf (u : Word) : Word := u >>> Config.payloadBits

/-- The continuation bit of the next digit: whether anything is left after it (40_encoder.md R67, R75). -/
def moreAfter (u : Word) : Bool := restOf u != 0#32

/-- The next digit of a zig-zag word (40_encoder.md R67, R75). -/
def nextDigit (u : Word) : Digit := mkDigit (moreAfter u) (lowPayload u)

end Sys2Proof.Machine
end

