-- ==== Sys2Proof/Machine/Codec.lean ====
section
/-! DEFINITION. The function level (00_scope.md R6): the document's pure functions, from a whole input to a whole output
(40_encoder.md R67 to R72; 41_decoder.md R83, R84), and the classes of groups (30_encoding.md R48, R56). -/

namespace Sys2Proof.Machine

/-- `Digits` with a bound on its recursion: a zig-zag word has at most `MAXGROUP` digits (40_encoder.md R67, R68). -/
def digitsFuel : Nat → Word → List Digit
  | 0, _ => []
  | k + 1, u => if moreAfter u then nextDigit u :: digitsFuel k (restOf u) else [nextDigit u]

/-- `Digits`: the group of a zig-zag word, least significant digit first (40_encoder.md R67). -/
def digits (u : Word) : List Digit := digitsFuel Config.maxGroup u

/-- `GroupLen`: the number of digits of a zig-zag word's group (40_encoder.md R68). -/
def groupLen (u : Word) : Nat :=
  if u.toNat < 2 ^ 5 then 1
  else if u.toNat < 2 ^ 10 then 2
  else if u.toNat < 2 ^ 15 then 3
  else if u.toNat < 2 ^ 20 then 4
  else if u.toNat < 2 ^ 25 then 5
  else if u.toNat < 2 ^ 30 then 6
  else 7

/-- `EncodeGroup`, which is also `EncodeSingle` (40_encoder.md R71). -/
def encodeGroup (n : Word) : List CharCode := (digits (zz n)).map alphaDigit

/-- `Encode` (40_encoder.md R72). -/
def encodeInts : List Word → List CharCode
  | [] => []
  | n :: rest => encodeGroup n ++ encodeInts rest

/-- The `ENC_OUT` token of a digit: its character, and `last` = NOT `C` (30_encoding.md R50). -/
def digitToken (d : Digit) : EncOut := ⟨!d.getLsbD 5, alphaDigit d⟩

/-- The `ENC_OUT` tokens of one integer's group (40_encoder.md R73). -/
def groupTokens (n : Word) : List EncOut := (digits (zz n)).map digitToken

/-- The running state of `Decode` (41_decoder.md R83). -/
structure DS where
  value : Word
  shift : BitVec 6
  fail : Bool
  res : List Word
  deriving DecidableEq, Repr

/-- The start state of `Decode` (41_decoder.md R83). -/
def ds0 : DS := ⟨0#32, 0#6, false, []⟩

/-- `StepChar` (41_decoder.md R83). -/
def stepChar (d : DS) (c : CharCode) : DS :=
  if d.fail then d
  else
    match lookup c with
    | none => { d with fail := true }
    | some v =>
      let value' := acc d.value d.shift (payloadOf v)
      if contOf v then { d with value := value', shift := nextShift d.shift }
      else { d with value := 0#32, shift := 0#6, res := d.res ++ [zzInv value'] }

/-- `Finish` (41_decoder.md R83). -/
def finish (d : DS) : Option (List Word) := if d.fail || d.shift != 0#6 then none else some d.res

/-- `Decode` (41_decoder.md R83). -/
def decodeStr (cs : List CharCode) : Option (List Word) := finish (cs.foldl stepChar ds0)

/-- `DecResult`: the result of one string from the tokens emitted for it, its words and then its verdict (41_decoder.md R84). On a list
that is not words and then one verdict, the tokens of a string not closed by `DEC.EOS` among them, the spec gives no result
(70_reset_and_hazards.md R127); this total function answers `none` there, as for a failed string. DESIGN CHOICE, unsafe: log entry 18. -/
def decResult : List DecOut → Option (List Word)
  | .word w :: rest => (decResult rest).map (w :: ·)
  | [.done ok] => if ok then some [] else none
  | _ => none

/-- A group as characters: continuation digits and then one character without the continuation bit (30_encoding.md R48). -/
def isGroup : List CharCode → Bool
  | [] => false
  | [c] => (lookup c).any fun v => !contOf v
  | c :: rest => (lookup c).any contOf && isGroup rest

/-- The payloads of a string of alphabet characters (41_decoder.md R80). -/
def payloads (g : List CharCode) : List Payload := g.map fun c => payloadOf (inv c).val

/-- The untruncated sum of 30_encoding.md R53, from the shift `k` on. -/
def payloadSumFrom (k : Nat) : List Payload → Nat
  | [] => 0
  | p :: rest => p.toNat * 2 ^ k + payloadSumFrom (k + Config.payloadBits) rest

/-- The untruncated sum of 30_encoding.md R53. -/
def payloadSum (ps : List Payload) : Nat := payloadSumFrom 0 ps

/-- In-range: at most 7 digits, the 7th with payload at most 3 (30_encoding.md R56). -/
def inRange (g : List CharCode) : Bool :=
  isGroup g && decide (g.length ≤ 7) && decide (g.length = 7 → ((payloads g).getLastD 0#5).toNat ≤ 3)

/-- Overlong: a group that is not in-range (30_encoding.md R56). -/
def overlong (g : List CharCode) : Bool := isGroup g && !inRange g

/-- The conditions of 30_encoding.md R56 for a canonical group: in-range, no zero digit at the top, and no `=`. -/
def canonicalForm (g : List CharCode) : Bool :=
  inRange g && decide (1 < g.length → (payloads g).getLastD 0#5 ≠ 0#5) && !g.contains 0x3D#8

/-- A string cut into its groups by its continuation bits, with what is left open at its end; `open_` is the group being read
(30_encoding.md R48, R55). -/
def splitGroupsFrom (open_ : List CharCode) : List CharCode → List (List CharCode) × List CharCode
  | [] => ([], open_)
  | c :: rest =>
    if (lookup c).any contOf then splitGroupsFrom (open_ ++ [c]) rest
    else
      let (gs, tail) := splitGroupsFrom [] rest
      ((open_ ++ [c]) :: gs, tail)

/-- The groups of a string, and what is left open at its end. -/
def splitGroups (cs : List CharCode) : List (List CharCode) × List CharCode := splitGroupsFrom [] cs

end Sys2Proof.Machine
end

