-- ==== Sys2Proof/Machine/State.lean ====
section
/-! DEFINITION. The state: the seven items of 10_state.md R13, the model's own record of `DEC_OUT`, and what the host does. -/

namespace Sys2Proof.Machine

/-- The wires the host drives in one clock period (20_memory.md R34). -/
structure Pins where
  /-- `rst`, active high (70_reset_and_hazards.md R121) -/
  rst : Bool
  encInValid : Bool
  encInData : Word
  encOutReady : Bool
  decInValid : Bool
  decInEos : Bool
  decInChar : CharCode
  decOutReady : Bool
  deriving DecidableEq, Repr

/-- The host drives nothing: every wire 0. -/
def Pins.idle : Pins := ⟨false, false, 0#32, false, false, false, 0#8, false⟩

/-- What the host does next. Not the block's state (10_state.md R26): an input of the step, held as data. -/
inductive HostMove where
  /-- one clock period with these wires; the block's steps are taken at the rising edge that ends it -/
  | period (p : Pins)
  /-- the host offers this one token and serves the block until the operation it stands for is complete -/
  | token (t : Token)
  deriving DecidableEq, Repr

/-- The machine's state. -/
structure State where
  /-- `ENC.U` (10_state.md R15) -/
  encU : Word
  /-- `ENC.BUSY` (10_state.md R16) -/
  encBusy : Bool
  /-- `DEC.VALUE` (10_state.md R17) -/
  decValue : Word
  /-- `DEC.SHIFT` (10_state.md R18) -/
  decShift : BitVec 6
  /-- `DEC.FAIL` (10_state.md R19) -/
  decFail : Bool
  /-- `ENC.TRACE`, ghost (10_state.md R20) -/
  encTrace : List EncOut
  /-- `DEC.RES`, ghost (10_state.md R20) -/
  decRes : List Word
  /-- the model's own ghost: every `DEC_OUT` token since reset -/
  decOut : List DecOut
  /-- the wires the host drives now -/
  pins : Pins
  /-- what the host does after that -/
  script : List HostMove
  deriving DecidableEq, Repr

/-- Why a step stops with a fault. There is no such reason: decode failure, the one exceptional condition, is a value in the state
and in the verdict token and not a stop (60_exceptions.md R107, R115), and the encoder raises nothing (R111). Safe: a claim that no
step faults says nothing about the hardware beyond these rules. -/
inductive Fault where
  deriving DecidableEq, Repr

/-- Why a step is refused. -/
inductive Refusal where
  /-- raised by `exec` for an instruction without a meaning: no arm uses it. Safe: nothing is claimed of such an instruction. -/
  | notModelled (mnemonic : String)
  /-- raised by `step` where the host's script names bits that are no token of their output stream (30_encoding.md R50, R52, R62).
  Safe: the hardware never carries such a token, so nothing it does is refused. -/
  | noSuchToken
  deriving DecidableEq, Repr

/-- The machine right after reset (10_state.md R28); the host drives nothing and has planned nothing. -/
def State.reset : State where
  encU := 0#32
  encBusy := false
  decValue := 0#32
  decShift := 0#6
  decFail := false
  encTrace := []
  decRes := []
  decOut := []
  pins := Pins.idle
  script := []

end Sys2Proof.Machine
end

