-- ==== Sys2Proof/Machine/Flags.lean ====
section
/-! DEFINITION. The flags and predicates (10_state.md R21): what is derived from the registers, and the verdict. -/

namespace Sys2Proof.Machine

/-- `DEC.OPEN`: a group is open (10_state.md R21). -/
def decOpen (s : State) : Bool := s.decShift != 0#6

/-- The verdict `DEC.EOS` forms from the values before its step (41_decoder.md R86). -/
def verdict (s : State) : Bool := !s.decFail && !decOpen s

/-- `ENC.BUSY` after one `ENC.EMIT`: the continuation bit of the digit it emits (40_encoder.md R75). -/
def busyAfterEmit (s : State) : Bool := moreAfter s.encU

end Sys2Proof.Machine
end

