-- ==== Sys2Proof/Machine/Ports.lean ====
section
/-! DEFINITION. The signals the block drives, as functions of the state and of the host's wires (20_memory.md R34, R35). -/

namespace Sys2Proof.Machine

/-- `enc_in_ready` (20_memory.md R34). -/
def encInReady (s : State) : Bool := !s.pins.rst && !s.encBusy

/-- `enc_out_valid` (20_memory.md R34). -/
def encOutValid (s : State) : Bool := !s.pins.rst && s.encBusy

/-- The `ENC_OUT` token of the digit `ENC.EMIT` would emit now (40_encoder.md R75). -/
def encOutToken (s : State) : EncOut := ⟨!moreAfter s.encU, alphaDigit (nextDigit s.encU)⟩

/-- `enc_out_char` (20_memory.md R34): 0 while ENC is idle; the same while `rst` = 1 (95_test_vectors.md P6, ENC side, period 5). -/
def encOutChar (s : State) : CharCode := if s.encBusy then (encOutToken s).char else 0#8

/-- `enc_out_last` (20_memory.md R34): 0 while ENC is idle; the same while `rst` = 1 (95_test_vectors.md P6, ENC side, period 5). -/
def encOutLast (s : State) : Bool := s.encBusy && (encOutToken s).last

/-- The word a terminating character makes DEC emit, when it would emit one (41_decoder.md R85). -/
def charEmission (c : CharCode) (s : State) : Option DecOut :=
  if s.decFail then none
  else
    match lookup c with
    | none => none
    | some v =>
      if contOf v then none else some (.word (zzInv (acc s.decValue s.decShift (payloadOf v))))

/-- The token DEC emits on taking a `DEC_IN` token with these fields, if it emits one (20_memory.md R35). -/
def emission (eos : Bool) (c : CharCode) (s : State) : Option DecOut :=
  if eos then some (.done (verdict s)) else charEmission c s

/-- Whether DEC can take a `DEC_IN` token with these fields: it can where the token emits nothing, and where it emits when the host
can take that (20_memory.md R34, R35). -/
def decTakes (eos : Bool) (c : CharCode) (s : State) : Bool :=
  !s.pins.rst && ((emission eos c s).isNone || s.pins.decOutReady)

/-- The token DEC offers on `DEC_OUT` while the host offers one on `DEC_IN` (20_memory.md R34, R35). Where it is `none`,
`dec_out_valid` is 0 and the spec gives `dec_out_done` and `dec_out_data` no value. -/
def decOutOffered (s : State) : Option DecOut :=
  if s.pins.rst || !s.pins.decInValid then none else emission s.pins.decInEos s.pins.decInChar s

/-- `dec_out_valid` (20_memory.md R34, R35). -/
def decOutValid (s : State) : Bool := (decOutOffered s).isSome

/-- `dec_in_ready` (20_memory.md R34, R35); the spec gives it no value (`none`) while no token is offered outside reset. -/
def decInReady (s : State) : Option Bool :=
  if s.pins.rst then some false
  else if s.pins.decInValid then some (decTakes s.pins.decInEos s.pins.decInChar s)
  else none

end Sys2Proof.Machine
end

