-- ==== Sys2Proof/Machine/Ops.lean ====
section
/-! DEFINITION. The named operations on the state: emitting on a stream, the body of each step, decode failure and its end, reset,
and each step together with its enabling. -/

namespace Sys2Proof.Machine

/-- The host drives these wires. -/
def State.drive (s : State) (p : Pins) : State := { s with pins := p }

/-- What an edge with `rst` = 1 leaves (70_reset_and_hazards.md R121, R122; 10_state.md R28). -/
def resetBlock (s : State) : State :=
  { s with encU := 0#32, encBusy := false, decValue := 0#32, decShift := 0#6, decFail := false,
           encTrace := [], decRes := [], decOut := [] }

/-- `emit ENC_OUT` (00_scope.md R9, 10_state.md R20). -/
def emitEncOut (t : EncOut) (s : State) : State := { s with encTrace := s.encTrace ++ [t] }

/-- `emit DEC_OUT(done = 0, data = w)`, which appends to `DEC.RES` (00_scope.md R9, 10_state.md R20, 41_decoder.md R85). -/
def emitWord (w : Word) (s : State) : State :=
  { s with decRes := s.decRes ++ [w], decOut := s.decOut ++ [.word w] }

/-- `emit DEC_OUT(done = 1, data = ok)` (00_scope.md R9, 41_decoder.md R86). -/
def emitDone (ok : Bool) (s : State) : State := { s with decOut := s.decOut ++ [.done ok] }

/-- Decode failure, the block's one exceptional condition: `raise DecodeFail(BadChar)` sets `DEC.FAIL` and nothing else
(00_scope.md R9; 60_exceptions.md R108, R115). -/
def raiseBadChar (s : State) : State := { s with decFail := true }

/-- The way out of a string, and of the failed state: the decoder's reset state (60_exceptions.md R117, 41_decoder.md R86). -/
def clearString (s : State) : State := { s with decValue := 0#32, decShift := 0#6, decFail := false, decRes := [] }

/-- The end of a group: the accumulator and the shift start again (41_decoder.md R85). -/
def clearGroup (s : State) : State := { s with decValue := 0#32, decShift := 0#6 }

/-- The body of `ENC.ACCEPT` (40_encoder.md R74). -/
def acceptWord (n : Word) (s : State) : State := { s with encU := zz n, encBusy := true }

/-- The body of `ENC.EMIT` (40_encoder.md R75). -/
def emitDigit (s : State) : State :=
  { emitEncOut (encOutToken s) s with encU := restOf s.encU, encBusy := busyAfterEmit s }

/-- The body of `DEC.CHAR c` (41_decoder.md R85). -/
def takeChar (c : CharCode) (s : State) : State :=
  if s.decFail then s
  else
    match lookup c with
    | none => raiseBadChar s
    | some v =>
      let nv := acc s.decValue s.decShift (payloadOf v)
      if contOf v then { s with decValue := nv, decShift := nextShift s.decShift }
      else clearGroup (emitWord (zzInv nv) s)

/-- The body of `DEC.EOS` (41_decoder.md R86). -/
def takeEos (s : State) : State := clearString (emitDone (verdict s) s)

/-- The body of the step that takes a `DEC_IN` token with these fields. -/
def takeDecIn (eos : Bool) (c : CharCode) (s : State) : State := if eos then takeEos s else takeChar c s

/-- `ENC.ACCEPT` of an offered token: taken when ENC is idle, else it waits (40_encoder.md R74). -/
def offerWord (n : Word) (s : State) : State := if encInReady s then acceptWord n s else s

/-- Whether `ENC.EMIT` is enabled (40_encoder.md R75). -/
def emitEnabled (s : State) : Bool := encOutValid s && s.pins.encOutReady

/-- `ENC.EMIT` with its enabling (40_encoder.md R75). -/
def tryEmit (s : State) : State := if emitEnabled s then emitDigit s else s

/-- `ENC.EMIT`, again and again while it is enabled, at most `k` times (40_encoder.md R73). -/
def emitUpTo : Nat → State → State
  | 0, s => s
  | k + 1, s => if emitEnabled s then emitUpTo k (emitDigit s) else s

/-- "repeat ENC.EMIT until ENC.BUSY == 0", as far as the host takes characters (40_encoder.md R73, R76). -/
def drain (s : State) : State := emitUpTo Config.maxGroup s

/-- `ENC.WORD n`: what is left of the group in progress goes out, the token is taken, and its group goes out
(40_encoder.md R73; 20_memory.md R41 item 2). -/
def runWord (n : Word) (s : State) : State := drain (offerWord n (drain s))

/-- `DEC.CHAR c` of an offered token, with its enabling (41_decoder.md R85, 20_memory.md R35). -/
def offerChar (c : CharCode) (s : State) : State := if decTakes false c s then takeChar c s else s

/-- `DEC.EOS` of an offered token, with its enabling (41_decoder.md R86, 20_memory.md R35). -/
def offerEos (s : State) : State := if decTakes true 0#8 s then takeEos s else s

/-- The characters of a string and then its end, each offered once the one before it is taken (30_encoding.md R64). -/
def offerString : List CharCode → State → State
  | [], s => offerEos s
  | c :: rest, s => if decTakes false c s then offerString rest (takeChar c s) else s

end Sys2Proof.Machine
end

