-- ==== Sys2Proof/Machine/CharForms.lean ====
section
/-! DEFINITION. The 65 rows of the opcode table that fix the operand of `DEC.CHAR` (41_decoder.md R85; `=` also 30_encoding.md
R59): each is `DEC.CHAR` of its own code. -/

namespace Sys2Proof.Machine

/-- `DEC.CHAR` of `A`, symbol value 0 (20_memory.md R30). -/
def execDecCharUpperA (s : State) : Host.Outcome State Fault Refusal := .next (offerChar 0x41#8 s)

/-- `DEC.CHAR` of `B`, symbol value 1 (20_memory.md R30). -/
def execDecCharUpperB (s : State) : Host.Outcome State Fault Refusal := .next (offerChar 0x42#8 s)

/-- `DEC.CHAR` of `C`, symbol value 2 (20_memory.md R30). -/
def execDecCharUpperC (s : State) : Host.Outcome State Fault Refusal := .next (offerChar 0x43#8 s)

/-- `DEC.CHAR` of `D`, symbol value 3 (20_memory.md R30). -/
def execDecCharUpperD (s : State) : Host.Outcome State Fault Refusal := .next (offerChar 0x44#8 s)

/-- `DEC.CHAR` of `E`, symbol value 4 (20_memory.md R30). -/
def execDecCharUpperE (s : State) : Host.Outcome State Fault Refusal := .next (offerChar 0x45#8 s)

/-- `DEC.CHAR` of `F`, symbol value 5 (20_memory.md R30). -/
def execDecCharUpperF (s : State) : Host.Outcome State Fault Refusal := .next (offerChar 0x46#8 s)

/-- `DEC.CHAR` of `G`, symbol value 6 (20_memory.md R30). -/
def execDecCharUpperG (s : State) : Host.Outcome State Fault Refusal := .next (offerChar 0x47#8 s)

/-- `DEC.CHAR` of `H`, symbol value 7 (20_memory.md R30). -/
def execDecCharUpperH (s : State) : Host.Outcome State Fault Refusal := .next (offerChar 0x48#8 s)

/-- `DEC.CHAR` of `I`, symbol value 8 (20_memory.md R30). -/
def execDecCharUpperI (s : State) : Host.Outcome State Fault Refusal := .next (offerChar 0x49#8 s)

/-- `DEC.CHAR` of `J`, symbol value 9 (20_memory.md R30). -/
def execDecCharUpperJ (s : State) : Host.Outcome State Fault Refusal := .next (offerChar 0x4A#8 s)

/-- `DEC.CHAR` of `K`, symbol value 10 (20_memory.md R30). -/
def execDecCharUpperK (s : State) : Host.Outcome State Fault Refusal := .next (offerChar 0x4B#8 s)

/-- `DEC.CHAR` of `L`, symbol value 11 (20_memory.md R30). -/
def execDecCharUpperL (s : State) : Host.Outcome State Fault Refusal := .next (offerChar 0x4C#8 s)

/-- `DEC.CHAR` of `M`, symbol value 12 (20_memory.md R30). -/
def execDecCharUpperM (s : State) : Host.Outcome State Fault Refusal := .next (offerChar 0x4D#8 s)

/-- `DEC.CHAR` of `N`, symbol value 13 (20_memory.md R30). -/
def execDecCharUpperN (s : State) : Host.Outcome State Fault Refusal := .next (offerChar 0x4E#8 s)

/-- `DEC.CHAR` of `O`, symbol value 14 (20_memory.md R30). -/
def execDecCharUpperO (s : State) : Host.Outcome State Fault Refusal := .next (offerChar 0x4F#8 s)

/-- `DEC.CHAR` of `P`, symbol value 15 (20_memory.md R30). -/
def execDecCharUpperP (s : State) : Host.Outcome State Fault Refusal := .next (offerChar 0x50#8 s)

/-- `DEC.CHAR` of `Q`, symbol value 16 (20_memory.md R30). -/
def execDecCharUpperQ (s : State) : Host.Outcome State Fault Refusal := .next (offerChar 0x51#8 s)

/-- `DEC.CHAR` of `R`, symbol value 17 (20_memory.md R30). -/
def execDecCharUpperR (s : State) : Host.Outcome State Fault Refusal := .next (offerChar 0x52#8 s)

/-- `DEC.CHAR` of `S`, symbol value 18 (20_memory.md R30). -/
def execDecCharUpperS (s : State) : Host.Outcome State Fault Refusal := .next (offerChar 0x53#8 s)

/-- `DEC.CHAR` of `T`, symbol value 19 (20_memory.md R30). -/
def execDecCharUpperT (s : State) : Host.Outcome State Fault Refusal := .next (offerChar 0x54#8 s)

/-- `DEC.CHAR` of `U`, symbol value 20 (20_memory.md R30). -/
def execDecCharUpperU (s : State) : Host.Outcome State Fault Refusal := .next (offerChar 0x55#8 s)

/-- `DEC.CHAR` of `V`, symbol value 21 (20_memory.md R30). -/
def execDecCharUpperV (s : State) : Host.Outcome State Fault Refusal := .next (offerChar 0x56#8 s)

/-- `DEC.CHAR` of `W`, symbol value 22 (20_memory.md R30). -/
def execDecCharUpperW (s : State) : Host.Outcome State Fault Refusal := .next (offerChar 0x57#8 s)

/-- `DEC.CHAR` of `X`, symbol value 23 (20_memory.md R30). -/
def execDecCharUpperX (s : State) : Host.Outcome State Fault Refusal := .next (offerChar 0x58#8 s)

/-- `DEC.CHAR` of `Y`, symbol value 24 (20_memory.md R30). -/
def execDecCharUpperY (s : State) : Host.Outcome State Fault Refusal := .next (offerChar 0x59#8 s)

/-- `DEC.CHAR` of `Z`, symbol value 25 (20_memory.md R30). -/
def execDecCharUpperZ (s : State) : Host.Outcome State Fault Refusal := .next (offerChar 0x5A#8 s)

/-- `DEC.CHAR` of `a`, symbol value 26 (20_memory.md R30). -/
def execDecCharLowerA (s : State) : Host.Outcome State Fault Refusal := .next (offerChar 0x61#8 s)

/-- `DEC.CHAR` of `b`, symbol value 27 (20_memory.md R30). -/
def execDecCharLowerB (s : State) : Host.Outcome State Fault Refusal := .next (offerChar 0x62#8 s)

/-- `DEC.CHAR` of `c`, symbol value 28 (20_memory.md R30). -/
def execDecCharLowerC (s : State) : Host.Outcome State Fault Refusal := .next (offerChar 0x63#8 s)

/-- `DEC.CHAR` of `d`, symbol value 29 (20_memory.md R30). -/
def execDecCharLowerD (s : State) : Host.Outcome State Fault Refusal := .next (offerChar 0x64#8 s)

/-- `DEC.CHAR` of `e`, symbol value 30 (20_memory.md R30). -/
def execDecCharLowerE (s : State) : Host.Outcome State Fault Refusal := .next (offerChar 0x65#8 s)

/-- `DEC.CHAR` of `f`, symbol value 31 (20_memory.md R30). -/
def execDecCharLowerF (s : State) : Host.Outcome State Fault Refusal := .next (offerChar 0x66#8 s)

/-- `DEC.CHAR` of `g`, symbol value 32 (20_memory.md R30). -/
def execDecCharLowerG (s : State) : Host.Outcome State Fault Refusal := .next (offerChar 0x67#8 s)

/-- `DEC.CHAR` of `h`, symbol value 33 (20_memory.md R30). -/
def execDecCharLowerH (s : State) : Host.Outcome State Fault Refusal := .next (offerChar 0x68#8 s)

/-- `DEC.CHAR` of `i`, symbol value 34 (20_memory.md R30). -/
def execDecCharLowerI (s : State) : Host.Outcome State Fault Refusal := .next (offerChar 0x69#8 s)

/-- `DEC.CHAR` of `j`, symbol value 35 (20_memory.md R30). -/
def execDecCharLowerJ (s : State) : Host.Outcome State Fault Refusal := .next (offerChar 0x6A#8 s)

/-- `DEC.CHAR` of `k`, symbol value 36 (20_memory.md R30). -/
def execDecCharLowerK (s : State) : Host.Outcome State Fault Refusal := .next (offerChar 0x6B#8 s)

/-- `DEC.CHAR` of `l`, symbol value 37 (20_memory.md R30). -/
def execDecCharLowerL (s : State) : Host.Outcome State Fault Refusal := .next (offerChar 0x6C#8 s)

/-- `DEC.CHAR` of `m`, symbol value 38 (20_memory.md R30). -/
def execDecCharLowerM (s : State) : Host.Outcome State Fault Refusal := .next (offerChar 0x6D#8 s)

/-- `DEC.CHAR` of `n`, symbol value 39 (20_memory.md R30). -/
def execDecCharLowerN (s : State) : Host.Outcome State Fault Refusal := .next (offerChar 0x6E#8 s)

/-- `DEC.CHAR` of `o`, symbol value 40 (20_memory.md R30). -/
def execDecCharLowerO (s : State) : Host.Outcome State Fault Refusal := .next (offerChar 0x6F#8 s)

/-- `DEC.CHAR` of `p`, symbol value 41 (20_memory.md R30). -/
def execDecCharLowerP (s : State) : Host.Outcome State Fault Refusal := .next (offerChar 0x70#8 s)

/-- `DEC.CHAR` of `q`, symbol value 42 (20_memory.md R30). -/
def execDecCharLowerQ (s : State) : Host.Outcome State Fault Refusal := .next (offerChar 0x71#8 s)

/-- `DEC.CHAR` of `r`, symbol value 43 (20_memory.md R30). -/
def execDecCharLowerR (s : State) : Host.Outcome State Fault Refusal := .next (offerChar 0x72#8 s)

/-- `DEC.CHAR` of `s`, symbol value 44 (20_memory.md R30). -/
def execDecCharLowerS (s : State) : Host.Outcome State Fault Refusal := .next (offerChar 0x73#8 s)

/-- `DEC.CHAR` of `t`, symbol value 45 (20_memory.md R30). -/
def execDecCharLowerT (s : State) : Host.Outcome State Fault Refusal := .next (offerChar 0x74#8 s)

/-- `DEC.CHAR` of `u`, symbol value 46 (20_memory.md R30). -/
def execDecCharLowerU (s : State) : Host.Outcome State Fault Refusal := .next (offerChar 0x75#8 s)

/-- `DEC.CHAR` of `v`, symbol value 47 (20_memory.md R30). -/
def execDecCharLowerV (s : State) : Host.Outcome State Fault Refusal := .next (offerChar 0x76#8 s)

/-- `DEC.CHAR` of `w`, symbol value 48 (20_memory.md R30). -/
def execDecCharLowerW (s : State) : Host.Outcome State Fault Refusal := .next (offerChar 0x77#8 s)

/-- `DEC.CHAR` of `x`, symbol value 49 (20_memory.md R30). -/
def execDecCharLowerX (s : State) : Host.Outcome State Fault Refusal := .next (offerChar 0x78#8 s)

/-- `DEC.CHAR` of `y`, symbol value 50 (20_memory.md R30). -/
def execDecCharLowerY (s : State) : Host.Outcome State Fault Refusal := .next (offerChar 0x79#8 s)

/-- `DEC.CHAR` of `z`, symbol value 51 (20_memory.md R30). -/
def execDecCharLowerZ (s : State) : Host.Outcome State Fault Refusal := .next (offerChar 0x7A#8 s)

/-- `DEC.CHAR` of `0`, symbol value 52 (20_memory.md R30). -/
def execDecCharDigit0 (s : State) : Host.Outcome State Fault Refusal := .next (offerChar 0x30#8 s)

/-- `DEC.CHAR` of `1`, symbol value 53 (20_memory.md R30). -/
def execDecCharDigit1 (s : State) : Host.Outcome State Fault Refusal := .next (offerChar 0x31#8 s)

/-- `DEC.CHAR` of `2`, symbol value 54 (20_memory.md R30). -/
def execDecCharDigit2 (s : State) : Host.Outcome State Fault Refusal := .next (offerChar 0x32#8 s)

/-- `DEC.CHAR` of `3`, symbol value 55 (20_memory.md R30). -/
def execDecCharDigit3 (s : State) : Host.Outcome State Fault Refusal := .next (offerChar 0x33#8 s)

/-- `DEC.CHAR` of `4`, symbol value 56 (20_memory.md R30). -/
def execDecCharDigit4 (s : State) : Host.Outcome State Fault Refusal := .next (offerChar 0x34#8 s)

/-- `DEC.CHAR` of `5`, symbol value 57 (20_memory.md R30). -/
def execDecCharDigit5 (s : State) : Host.Outcome State Fault Refusal := .next (offerChar 0x35#8 s)

/-- `DEC.CHAR` of `6`, symbol value 58 (20_memory.md R30). -/
def execDecCharDigit6 (s : State) : Host.Outcome State Fault Refusal := .next (offerChar 0x36#8 s)

/-- `DEC.CHAR` of `7`, symbol value 59 (20_memory.md R30). -/
def execDecCharDigit7 (s : State) : Host.Outcome State Fault Refusal := .next (offerChar 0x37#8 s)

/-- `DEC.CHAR` of `8`, symbol value 60 (20_memory.md R30). -/
def execDecCharDigit8 (s : State) : Host.Outcome State Fault Refusal := .next (offerChar 0x38#8 s)

/-- `DEC.CHAR` of `9`, symbol value 61 (20_memory.md R30). -/
def execDecCharDigit9 (s : State) : Host.Outcome State Fault Refusal := .next (offerChar 0x39#8 s)

/-- `DEC.CHAR` of `+`, symbol value 62 (20_memory.md R30). -/
def execDecCharPlus (s : State) : Host.Outcome State Fault Refusal := .next (offerChar 0x2B#8 s)

/-- `DEC.CHAR` of `/`, symbol value 63 (20_memory.md R30). -/
def execDecCharSlash (s : State) : Host.Outcome State Fault Refusal := .next (offerChar 0x2F#8 s)

/-- `DEC.CHAR` of `=`, symbol value 64 (20_memory.md R30). -/
def execDecCharEquals (s : State) : Host.Outcome State Fault Refusal := .next (offerChar 0x3D#8 s)

end Sys2Proof.Machine
end

