-- ==== Sys2Proof/Machine/Decoder.lean ====
section
/-! DEFINITION. The meanings of `DEC.CHAR`, `DEC.EOS` and of `DEC.CHAR` with a code outside the alphabet (41_decoder.md R85, R86;
60_exceptions.md R108). -/

namespace Sys2Proof.Machine

/-- `DEC.CHAR c` (41_decoder.md R85). -/
def execDecChar (c : CharCode) (s : State) : Host.Outcome State Fault Refusal := .next (offerChar c s)

/-- `DEC.EOS`, whatever its `char` field (41_decoder.md R86, 30_encoding.md R62). -/
def execDecEos (_ignored : CharCode) (s : State) : Host.Outcome State Fault Refusal := .next (offerEos s)

/-- `DEC.CHAR` with a code outside the alphabet (30_encoding.md R60, 60_exceptions.md R108). -/
def execDecCharOutside (c : CharCode) (s : State) : Host.Outcome State Fault Refusal := .next (offerChar c s)

end Sys2Proof.Machine
end

