-- ==== Sys2Proof/Machine/Encoder.lean ====
section
/-! DEFINITION. The meanings of `ENC.WORD`, `ENC.ACCEPT` and `ENC.EMIT` (40_encoder.md R73 to R75). -/

namespace Sys2Proof.Machine

/-- `ENC.WORD n` (40_encoder.md R73): the whole operation, as far as the host takes its characters. -/
def execEncWord (n : Word) (s : State) : Host.Outcome State Fault Refusal := .next (runWord n s)

/-- `ENC.ACCEPT` of the offered token `n` (40_encoder.md R74). -/
def execEncAccept (n : Word) (s : State) : Host.Outcome State Fault Refusal := .next (offerWord n s)

/-- `ENC.EMIT` (40_encoder.md R75). -/
def execEncEmit (s : State) : Host.Outcome State Fault Refusal := .next (tryEmit s)

end Sys2Proof.Machine
end

