-- ==== Sys2Proof/Machine/OutTokens.lean ====
section
/-! DEFINITION. The output tokens as rows of the opcode table (30_encoding.md R50, R52): the transfer of that token on its stream. A
token is transferred where the block offers it and the host takes it (20_memory.md R33), and the step that emits it happens with it;
where the block offers another token, or none, or the host takes none, this token is not transferred and nothing changes. -/

namespace Sys2Proof.Machine

/-- The token `t` crosses `ENC_OUT`: the `ENC.EMIT` that emits it (40_encoder.md R75). -/
def crossEncOut (t : EncOut) (s : State) : State :=
  if emitEnabled s && encOutToken s == t then emitDigit s else s

/-- The token `t` crosses `DEC_OUT`: the step that takes the offered `DEC_IN` token and emits it (20_memory.md R35). -/
def crossDecOut (t : DecOut) (s : State) : State :=
  if decOutOffered s == some t && s.pins.decOutReady then takeDecIn s.pins.decInEos s.pins.decInChar s else s

/-- `CHAR` (30_encoding.md R50). -/
def execCharToken (last : Bool) (c : CharCode) (s : State) : Host.Outcome State Fault Refusal := .next (crossEncOut ⟨last, c⟩ s)

/-- `WORD` (30_encoding.md R52). -/
def execWordToken (d : Word) (s : State) : Host.Outcome State Fault Refusal := .next (crossDecOut (.word d) s)

/-- `DONE` (30_encoding.md R52). -/
def execDoneToken (ok : Bool) (s : State) : Host.Outcome State Fault Refusal := .next (crossDecOut (.done ok) s)

end Sys2Proof.Machine
end

