-- ==== Sys2Proof/Machine/Pseudo.lean ====
section
/-! DEFINITION. The pseudo-operations, each the run of its expansion (30_encoding.md R64). -/

namespace Sys2Proof.Machine

/-- `ENCODE [n_1, ..., n_k]`: the `ENC.WORD`s in order; none for the empty list (30_encoding.md R64). -/
def execEncode (ns : List Word) (s : State) : Host.Outcome State Fault Refusal := .next (ns.foldl (fun s n => runWord n s) s)

/-- `ENCODE1 n` is `ENC.WORD n` (30_encoding.md R64, 42_codec_laws.md R98). -/
def execEncode1 (n : Word) (s : State) : Host.Outcome State Fault Refusal := .next (runWord n s)

/-- `DECODE "c_1 ... c_L"`: the `DEC.CHAR`s in order and then `DEC.EOS` (30_encoding.md R64). -/
def execDecode (cs : List CharCode) (s : State) : Host.Outcome State Fault Refusal := .next (offerString cs s)

end Sys2Proof.Machine
end

