-- ==== Sys2Proof/Machine/Dispatch.lean ====
section
/-! DEFINITION. The dispatch: one arm per constructor, each one call of that instruction's meaning. -/

namespace Sys2Proof.Machine

def exec (i : Instr) (s : State) : Host.Outcome State Fault Refusal :=
  match i with
  | .encWord n => Sys2Proof.Machine.execEncWord n s
  | .encAccept n => Sys2Proof.Machine.execEncAccept n s
  | .encEmit => Sys2Proof.Machine.execEncEmit s
  | .decChar c => Sys2Proof.Machine.execDecChar c s
  | .decEos c => Sys2Proof.Machine.execDecEos c s
  | .decCharUpperA => Sys2Proof.Machine.execDecCharUpperA s
  | .decCharUpperB => Sys2Proof.Machine.execDecCharUpperB s
  | .decCharUpperC => Sys2Proof.Machine.execDecCharUpperC s
  | .decCharUpperD => Sys2Proof.Machine.execDecCharUpperD s
  | .decCharUpperE => Sys2Proof.Machine.execDecCharUpperE s
  | .decCharUpperF => Sys2Proof.Machine.execDecCharUpperF s
  | .decCharUpperG => Sys2Proof.Machine.execDecCharUpperG s
  | .decCharUpperH => Sys2Proof.Machine.execDecCharUpperH s
  | .decCharUpperI => Sys2Proof.Machine.execDecCharUpperI s
  | .decCharUpperJ => Sys2Proof.Machine.execDecCharUpperJ s
  | .decCharUpperK => Sys2Proof.Machine.execDecCharUpperK s
  | .decCharUpperL => Sys2Proof.Machine.execDecCharUpperL s
  | .decCharUpperM => Sys2Proof.Machine.execDecCharUpperM s
  | .decCharUpperN => Sys2Proof.Machine.execDecCharUpperN s
  | .decCharUpperO => Sys2Proof.Machine.execDecCharUpperO s
  | .decCharUpperP => Sys2Proof.Machine.execDecCharUpperP s
  | .decCharUpperQ => Sys2Proof.Machine.execDecCharUpperQ s
  | .decCharUpperR => Sys2Proof.Machine.execDecCharUpperR s
  | .decCharUpperS => Sys2Proof.Machine.execDecCharUpperS s
  | .decCharUpperT => Sys2Proof.Machine.execDecCharUpperT s
  | .decCharUpperU => Sys2Proof.Machine.execDecCharUpperU s
  | .decCharUpperV => Sys2Proof.Machine.execDecCharUpperV s
  | .decCharUpperW => Sys2Proof.Machine.execDecCharUpperW s
  | .decCharUpperX => Sys2Proof.Machine.execDecCharUpperX s
  | .decCharUpperY => Sys2Proof.Machine.execDecCharUpperY s
  | .decCharUpperZ => Sys2Proof.Machine.execDecCharUpperZ s
  | .decCharLowerA => Sys2Proof.Machine.execDecCharLowerA s
  | .decCharLowerB => Sys2Proof.Machine.execDecCharLowerB s
  | .decCharLowerC => Sys2Proof.Machine.execDecCharLowerC s
  | .decCharLowerD => Sys2Proof.Machine.execDecCharLowerD s
  | .decCharLowerE => Sys2Proof.Machine.execDecCharLowerE s
  | .decCharLowerF => Sys2Proof.Machine.execDecCharLowerF s
  | .decCharLowerG => Sys2Proof.Machine.execDecCharLowerG s
  | .decCharLowerH => Sys2Proof.Machine.execDecCharLowerH s
  | .decCharLowerI => Sys2Proof.Machine.execDecCharLowerI s
  | .decCharLowerJ => Sys2Proof.Machine.execDecCharLowerJ s
  | .decCharLowerK => Sys2Proof.Machine.execDecCharLowerK s
  | .decCharLowerL => Sys2Proof.Machine.execDecCharLowerL s
  | .decCharLowerM => Sys2Proof.Machine.execDecCharLowerM s
  | .decCharLowerN => Sys2Proof.Machine.execDecCharLowerN s
  | .decCharLowerO => Sys2Proof.Machine.execDecCharLowerO s
  | .decCharLowerP => Sys2Proof.Machine.execDecCharLowerP s
  | .decCharLowerQ => Sys2Proof.Machine.execDecCharLowerQ s
  | .decCharLowerR => Sys2Proof.Machine.execDecCharLowerR s
  | .decCharLowerS => Sys2Proof.Machine.execDecCharLowerS s
  | .decCharLowerT => Sys2Proof.Machine.execDecCharLowerT s
  | .decCharLowerU => Sys2Proof.Machine.execDecCharLowerU s
  | .decCharLowerV => Sys2Proof.Machine.execDecCharLowerV s
  | .decCharLowerW => Sys2Proof.Machine.execDecCharLowerW s
  | .decCharLowerX => Sys2Proof.Machine.execDecCharLowerX s
  | .decCharLowerY => Sys2Proof.Machine.execDecCharLowerY s
  | .decCharLowerZ => Sys2Proof.Machine.execDecCharLowerZ s
  | .decCharDigit0 => Sys2Proof.Machine.execDecCharDigit0 s
  | .decCharDigit1 => Sys2Proof.Machine.execDecCharDigit1 s
  | .decCharDigit2 => Sys2Proof.Machine.execDecCharDigit2 s
  | .decCharDigit3 => Sys2Proof.Machine.execDecCharDigit3 s
  | .decCharDigit4 => Sys2Proof.Machine.execDecCharDigit4 s
  | .decCharDigit5 => Sys2Proof.Machine.execDecCharDigit5 s
  | .decCharDigit6 => Sys2Proof.Machine.execDecCharDigit6 s
  | .decCharDigit7 => Sys2Proof.Machine.execDecCharDigit7 s
  | .decCharDigit8 => Sys2Proof.Machine.execDecCharDigit8 s
  | .decCharDigit9 => Sys2Proof.Machine.execDecCharDigit9 s
  | .decCharPlus => Sys2Proof.Machine.execDecCharPlus s
  | .decCharSlash => Sys2Proof.Machine.execDecCharSlash s
  | .decCharEquals => Sys2Proof.Machine.execDecCharEquals s
  | .decCharOutside c => Sys2Proof.Machine.execDecCharOutside c s
  | .charToken last c => Sys2Proof.Machine.execCharToken last c s
  | .wordToken d => Sys2Proof.Machine.execWordToken d s
  | .doneToken ok => Sys2Proof.Machine.execDoneToken ok s
  | .encode ns => Sys2Proof.Machine.execEncode ns s
  | .encode1 n => Sys2Proof.Machine.execEncode1 n s
  | .decode cs => Sys2Proof.Machine.execDecode cs s

end Sys2Proof.Machine
end

