-- ==== Sys2Proof/Machine/Edge.lean ====
section
/-! DEFINITION. What one move of the host makes the block do: one rising clock edge (20_memory.md R33 to R35, R39;
70_reset_and_hazards.md R121), or one offered token served until its operation is complete. -/

namespace Sys2Proof.Machine

/-- The rest of an edge after the steps so far, if these gave a next state. -/
def andThen (o : Host.Outcome State Fault Refusal) (f : State → Host.Outcome State Fault Refusal) :
    Host.Outcome State Fault Refusal :=
  match o with
  | .next s => f s
  | .fault r => .fault r
  | .refused r => .refused r

/-- The instruction an input token stands for, run; a token of an output stream with bits that are none is refused. -/
def runDecoded (d : Except DecodeError Instr) (s : State) : Host.Outcome State Fault Refusal :=
  match d with
  | .ok i => exec i s
  | .error _ => .refused .noSuchToken

/-- ENC's step at an edge: `ENC.EMIT` while busy, else `ENC.ACCEPT` of an offered token, the first step of the `ENC.WORD` the token
stands for (40_encoder.md R73, R76). -/
def encSide (s : State) : Host.Outcome State Fault Refusal :=
  if s.encBusy then exec .encEmit s
  else if s.pins.encInValid then exec (.encAccept s.pins.encInData) s
  else .next s

/-- DEC's step at an edge: the operation of an offered token (30_encoding.md R54). -/
def decSide (s : State) : Host.Outcome State Fault Refusal :=
  if s.pins.decInValid then runDecoded (.ok (decodeDecIn (decInBits s.pins.decInEos s.pins.decInChar))) s
  else .next s

/-- One rising edge of `clk` at the end of a period in which the host drives `p`: reset, or ENC's step and DEC's step, which share no
state (00_scope.md R5). -/
def edge (p : Pins) (s : State) : Host.Outcome State Fault Refusal :=
  if p.rst then .next (resetBlock (s.drive p)) else andThen (encSide (s.drive p)) decSide

/-- The host's wires while it offers one token and serves the block: it takes every token the operation emits, and offers nothing to
the other agent. For an output token it takes that token, releases reset (`rst` = 0) and leaves the other wires as they are. That the
serving host holds `rst` at 0 for every kind of token is a DESIGN CHOICE, log entries 4 and 8. -/
def servingPins (t : Token) (p : Pins) : Pins :=
  match t with
  | .encIn n => { Pins.idle with encInValid := true, encInData := n, encOutReady := true }
  | .decIn b => { Pins.idle with decInValid := true, decInEos := decInEosOf b, decInChar := decInCharOf b, decOutReady := true }
  | .encOut _ => { p with rst := false, encOutReady := true }
  | .decOut _ => { p with rst := false, decOutReady := true }

/-- The instruction of the token, run while the host serves the block. -/
def serve (t : Token) (s : State) : Host.Outcome State Fault Refusal :=
  runDecoded (decodeToken t) (s.drive (servingPins t s.pins))

end Sys2Proof.Machine
end

