-- ==== Sys2Proof/Machine/Step.lean ====
section
/-! DEFINITION. One step: the next move of the host's script. -/

namespace Sys2Proof.Machine

/-- One step of the machine. With nothing left in the script the host drives nothing for one clock period
(70_reset_and_hazards.md R132). -/
def step (s : State) : Host.Outcome State Fault Refusal :=
  match s.script with
  | [] => edge Pins.idle s
  | .period p :: rest => edge p { s with script := rest }
  | .token t :: rest => serve t { s with script := rest }

/-- `s` with the token that the table row's bits are as the host's next move. -/
def State.withFetchWord (s : State) (nbits w : Nat) : State :=
  match tokenOfWord nbits w with
  | some t => { s with script := .token t :: s.script }
  | none => s

end Sys2Proof.Machine
end

