-- ==== Sys2Proof/Machine/Run.lean ====
section
/-! DEFINITION. Runs of clock periods, the tokens the block takes in them, and the loop-back wiring: the words in which
42_codec_laws.md R104 to R106 are stated. -/

namespace Sys2Proof.Machine

/-- The state after one clock period in which the host drives `p`; an edge always gives a next state. -/
def afterEdge (p : Pins) (s : State) : State :=
  match edge p s with
  | .next s' => s'
  | .fault _ => s
  | .refused _ => s

/-- The state after clock periods in which the host drives these wires. -/
def afterPeriods : List Pins → State → State
  | [], s => s
  | p :: ps, s => afterPeriods ps (afterEdge p s)

/-- The integers transferred on `ENC_IN` in these clock periods (20_memory.md R33). -/
def intsTaken : List Pins → State → List Word
  | [], _ => []
  | p :: ps, s =>
    (if p.encInValid && encInReady (s.drive p) then [p.encInData] else []) ++ intsTaken ps (afterEdge p s)

/-- The tokens transferred on `DEC_IN` in these clock periods, as `eos` and `char` (20_memory.md R33). -/
def decTokensTaken : List Pins → State → List (Bool × CharCode)
  | [], _ => []
  | p :: ps, s =>
    (if p.decInValid && decTakes p.decInEos p.decInChar (s.drive p) then [(p.decInEos, p.decInChar)] else []) ++
      decTokensTaken ps (afterEdge p s)

/-- The strings that `DEC_IN` tokens close, and the characters of the string left open (00_scope.md R10, "string"); `open_` is the
string being read. -/
def stringsFrom (open_ : List CharCode) : List (Bool × CharCode) → List (List CharCode) × List CharCode
  | [] => ([], open_)
  | (eos, c) :: rest =>
    if eos then
      let (ss, tail) := stringsFrom [] rest
      (open_ :: ss, tail)
    else stringsFrom (open_ ++ [c]) rest

/-- The strings closed by a run of `DEC_IN` tokens, and the string left open. -/
def stringsOf (ts : List (Bool × CharCode)) : List (List CharCode) × List CharCode := stringsFrom [] ts

/-- The `DEC_OUT` tokens cut after each verdict, and those after the last one; `open_` are the words being read. -/
def resultsFrom (open_ : List DecOut) : List DecOut → List (List DecOut) × List DecOut
  | [] => ([], open_)
  | .word w :: rest => resultsFrom (open_ ++ [.word w]) rest
  | .done ok :: rest =>
    let (rs, tail) := resultsFrom [] rest
    ((open_ ++ [.done ok]) :: rs, tail)

/-- The `DEC_OUT` tokens of each closed string, and those since the last verdict. -/
def resultsOf (ts : List DecOut) : List (List DecOut) × List DecOut := resultsFrom [] ts

/-- The host's wires with `enc_out_char` wired to `dec_in_char` and the handshakes with it: every character of ENC is offered to DEC
in the period in which ENC offers it, and both outputs are taken (42_codec_laws.md R106; 70_reset_and_hazards.md R125). -/
def loopPins (s : State) (offer : Option Word) : Pins :=
  { rst := false, encInValid := offer.isSome, encInData := offer.getD 0#32, encOutReady := true,
    decInValid := encOutValid (s.drive Pins.idle), decInEos := false, decInChar := encOutChar s, decOutReady := true }

/-- `k` looped-back periods in which the host offers ENC nothing. -/
def loopPeriods : Nat → State → State
  | 0, s => s
  | k + 1, s => loopPeriods k (afterEdge (loopPins s none) s)

/-- One integer through the loop: the period that offers it, and one for each character of its group but the last `less`. -/
def loopWord (n : Word) (less : Nat) (s : State) : State :=
  loopPeriods (groupLen (zz n) - less) (afterEdge (loopPins s (some n)) s)

end Sys2Proof.Machine
end

