-- ==== Sys2Proof/Safety.lean ====
section
/-! DEFINITION. The predicates claims are made in: the invariants of 10_state.md R27, what it means that the host serves the block, and
the operand forms of `DEC.CHAR` with what 20_memory.md R30 says of each. -/

namespace Sys2Proof

open Machine

/-- `DEC.SHIFT` has one of its eight values (10_state.md R18, R27 item 1). -/
abbrev legalShift (sh : BitVec 6) : Prop := sh.toNat ∈ [0, 5, 10, 15, 20, 25, 30, 35]

/-- 10_state.md R27 items 1 to 3. -/
abbrev decInv (s : State) : Prop :=
  legalShift s.decShift ∧ (s.decShift = 0#6 → s.decValue = 0#32) ∧
    (s.decShift.toNat ≤ 30 → s.decValue.toNat < 2 ^ s.decShift.toNat)

/-- 10_state.md R27 item 4. -/
abbrev encInv (s : State) : Prop := s.encBusy = false → s.encU = 0#32

/-- Every `ENC_OUT` token carried is a digit's character with its `last` bit (30_encoding.md R50, 40_encoder.md R70). -/
abbrev traceInv (s : State) : Prop := ∀ t ∈ s.encTrace, encOutLegal t = true

/-- `DEC.RES` is the words carried on `DEC_OUT` since the last verdict (10_state.md R20). -/
abbrev resInv (s : State) : Prop := s.decRes.map DecOut.word = (resultsOf s.decOut).2

/-- The invariant every step keeps. -/
abbrev blockInv (s : State) : Prop := decInv s ∧ encInv s ∧ traceInv s ∧ resInv s

/-- The block is out of reset and the host takes every `ENC_OUT` token. -/
abbrev hostTakesChars (s : State) : Prop := s.pins.rst = false ∧ s.pins.encOutReady = true

/-- The block is out of reset and the host takes every `DEC_OUT` token. -/
abbrev hostTakesDecOut (s : State) : Prop := s.pins.rst = false ∧ s.pins.decOutReady = true

/-- ENC is idle, as it is at reset and after each `ENC.WORD` (10_state.md R27 item 4, 40_encoder.md R73). -/
abbrev encIdle (s : State) : Prop := s.encBusy = false ∧ s.encU = 0#32

/-- DEC is at the start of a group of a string that has not failed (41_decoder.md R88). -/
abbrev atGroupStart (s : State) : Prop := s.decValue = 0#32 ∧ s.decShift = 0#6 ∧ s.decFail = false

/-- What ENC owns is the same in both states (00_scope.md R5). -/
abbrev sameEnc (s t : State) : Prop := s.encU = t.encU ∧ s.encBusy = t.encBusy ∧ s.encTrace = t.encTrace

/-- What DEC owns is the same in both states (00_scope.md R5). -/
abbrev sameDec (s t : State) : Prop :=
  s.decValue = t.decValue ∧ s.decShift = t.decShift ∧ s.decFail = t.decFail ∧ s.decRes = t.decRes ∧ s.decOut = t.decOut

/-- The decoder's registers and trace as the running state of `Decode` (42_codec_laws.md R105). -/
def dsOf (s : State) : DS := ⟨s.decValue, s.decShift, s.decFail, s.decRes⟩

/-- The 32 operand forms of `DEC.CHAR` that are terminating digits, with their payloads (20_memory.md R30, 30_encoding.md R54). -/
def terminatingForms : List (Instr × Nat) := [
  (.decCharUpperA, 0), (.decCharUpperB, 1), (.decCharUpperC, 2), (.decCharUpperD, 3),
  (.decCharUpperE, 4), (.decCharUpperF, 5), (.decCharUpperG, 6), (.decCharUpperH, 7),
  (.decCharUpperI, 8), (.decCharUpperJ, 9), (.decCharUpperK, 10), (.decCharUpperL, 11),
  (.decCharUpperM, 12), (.decCharUpperN, 13), (.decCharUpperO, 14), (.decCharUpperP, 15),
  (.decCharUpperQ, 16), (.decCharUpperR, 17), (.decCharUpperS, 18), (.decCharUpperT, 19),
  (.decCharUpperU, 20), (.decCharUpperV, 21), (.decCharUpperW, 22), (.decCharUpperX, 23),
  (.decCharUpperY, 24), (.decCharUpperZ, 25), (.decCharLowerA, 26), (.decCharLowerB, 27),
  (.decCharLowerC, 28), (.decCharLowerD, 29), (.decCharLowerE, 30), (.decCharLowerF, 31)]

/-- The 32 operand forms of `DEC.CHAR` that are continuation digits, with their payloads (20_memory.md R30, 30_encoding.md R54). -/
def continuationForms : List (Instr × Nat) := [
  (.decCharLowerG, 0), (.decCharLowerH, 1), (.decCharLowerI, 2), (.decCharLowerJ, 3),
  (.decCharLowerK, 4), (.decCharLowerL, 5), (.decCharLowerM, 6), (.decCharLowerN, 7),
  (.decCharLowerO, 8), (.decCharLowerP, 9), (.decCharLowerQ, 10), (.decCharLowerR, 11),
  (.decCharLowerS, 12), (.decCharLowerT, 13), (.decCharLowerU, 14), (.decCharLowerV, 15),
  (.decCharLowerW, 16), (.decCharLowerX, 17), (.decCharLowerY, 18), (.decCharLowerZ, 19),
  (.decCharDigit0, 20), (.decCharDigit1, 21), (.decCharDigit2, 22), (.decCharDigit3, 23),
  (.decCharDigit4, 24), (.decCharDigit5, 25), (.decCharDigit6, 26), (.decCharDigit7, 27),
  (.decCharDigit8, 28), (.decCharDigit9, 29), (.decCharPlus, 30), (.decCharSlash, 31)]

end Sys2Proof
end

