-- ==== Sys2Proof/Certificates/Slice0/Obligations.lean ====
section
/-! DEFINITION. The statements for the provers, in the order of the spec's files: the ROMs, the token formats, the encoder, the
decoder, the laws of the codec, the clock edge, reset, and the runs. -/

open Sys2Proof Sys2Proof.Machine

/-! ## The ROMs (20_memory.md) -/

/-- R32: the two ROMs are inverse to each other, and the codes of the alphabet are pairwise different. -/
def Obligations.RomsAreInverse : Prop :=
  (∀ i : Fin 65, inv (alpha i) = ⟨true, BitVec.ofNat 7 i.val⟩) ∧
  (∀ c : CharCode, (inv c).valid = true → ∃ h : (inv c).val.toNat < 65, alpha ⟨(inv c).val.toNat, h⟩ = c) ∧
  (∀ i j : Fin 65, alpha i = alpha j → i = j)

/-- R54: the 256 codes fall into four classes of 32, 32, 1 and 191. -/
def Obligations.OperandClassesCount : Prop :=
  ((List.range 256).countP fun c => classOf (BitVec.ofNat 8 c) == .terminating) = 32 ∧
  ((List.range 256).countP fun c => classOf (BitVec.ofNat 8 c) == .continuation) = 32 ∧
  ((List.range 256).countP fun c => classOf (BitVec.ofNat 8 c) == .reserved) = 1 ∧
  ((List.range 256).countP fun c => classOf (BitVec.ofNat 8 c) == .invalid) = 191

/-! ## Tokens and instructions (30_encoding.md) -/

/-- R49 to R52: tokens written out from their formats decode to the operations they stand for. Which row the decoder answers where
several rows name a token is log entry 9. -/
def Obligations.WrittenTokensDecode : Prop :=
  decodeToken (.encIn 0x0000007B#32) = .ok (.encWord 123#32) ∧
  decodeToken (.decIn 0b001000001#9) = .ok .decCharUpperA ∧
  decodeToken (.decIn 0b000110010#9) = .ok .decCharDigit2 ∧
  decodeToken (.decIn 0b000111101#9) = .ok .decCharEquals ∧
  decodeToken (.decIn 0b000100000#9) = .ok (.decChar 0x20#8) ∧
  decodeToken (.decIn 0b100000000#9) = .ok (.decEos 0#8) ∧
  decodeToken (.decIn 0b111111111#9) = .ok (.decEos 0xFF#8) ∧
  decodeToken (.encOut 0b101001000#9) = .ok (.charToken true 0x48#8) ∧
  decodeToken (.decOut 0x00000007B#33) = .ok (.wordToken 123#32) ∧
  decodeToken (.decOut 0x100000001#33) = .ok (.doneToken true) ∧
  decodeToken (.decOut 0x100000000#33) = .ok (.doneToken false)

/-- R49 to R52: the token of a well-formed instruction that the decoder answers decodes to that instruction. `hasOwnToken` leaves out the
rows that the decoder never answers (log entry 9). -/
def Obligations.DecodeUndoesEncode : Prop :=
  ∀ i : Instr, i.wellFormed = true → i.hasOwnToken = true →
    ∃ t, encodeInstr i = [t] ∧ decodeToken t = .ok i

/-- R49 to R52, R54: what the decoder answers for a token is well-formed and has that token; every token of an input stream has an
operation (R54, R62). Which row the decoder answers where several rows name a token is log entry 9. -/
def Obligations.EncodeUndoesDecode : Prop :=
  (∀ (t : Token) (i : Instr), decodeToken t = .ok i →
    i.wellFormed = true ∧ i.hasOwnToken = true ∧ encodeInstr i = [t]) ∧
  (∀ n, ∃ i, decodeToken (.encIn n) = .ok i) ∧ (∀ b, ∃ i, decodeToken (.decIn b) = .ok i)

/-- R53: a group decodes to the integer of its payloads' sum modulo 2^32. The modulus is the spec's decision D5 (log entry 11). -/
def Obligations.GroupDecodesToItsSum : Prop :=
  ∀ g : List CharCode, isGroup g = true →
    decodeStr g = some [zzInv (BitVec.ofNat 32 (payloadSum (payloads g)))]

/-- R56: a group is canonical, by the conditions on its digits, exactly when the encoder produces it. -/
def Obligations.CanonicalGroupsAreTheEncoders : Prop :=
  ∀ g : List CharCode, canonicalForm g = true ↔ ∃ n : Word, encodeGroup n = g

/-- R58: of a group of seven digits or more, the bits that do not fit 32 bits are discarded. This is `OVERLONG` = truncate, the spec's
decisions D5 and D6 and the model's log entry 11. -/
def Obligations.OverlongGroupsKeepLowBits : Prop :=
  ∀ (g : List CharCode) (p0 p1 p2 p3 p4 p5 p6 : Payload) (more : List Payload),
    isGroup g = true → payloads g = p0 :: p1 :: p2 :: p3 :: p4 :: p5 :: p6 :: more →
      decodeStr g = some [zzInv (BitVec.ofNat 32
        (p0.toNat + p1.toNat * 2 ^ 5 + p2.toNat * 2 ^ 10 + p3.toNat * 2 ^ 15 + p4.toNat * 2 ^ 20 + p5.toNat * 2 ^ 25 +
          p6.toNat % 4 * 2 ^ 30))]

/-! ## The encoder (40_encoder.md) -/

/-- R65: the zig-zag word in the three arms, over the integers, and as the one formula. -/
def Obligations.ZigzagOfInteger : Prop :=
  ∀ n : Word,
    (0 ≤ n.toInt → ((zz n).toNat : Int) = 2 * n.toInt) ∧
    (n.toInt < 0 → n.toInt ≠ -2 ^ 31 → ((zz n).toNat : Int) = 2 * (-n.toInt) + 1) ∧
    (n.toInt = -2 ^ 31 → (zz n).toNat = 1) ∧
    zz n = (BitVec.extractLsb' 0 31 (if n.msb then -n else n) ++ BitVec.ofBool n.msb)

/-- R67: the digits of a zig-zag word, by the recursion and in closed form. -/
def Obligations.DigitsOfWord : Prop :=
  ∀ u : Word,
    digits u = (if u.toNat / 32 ≠ 0
      then mkDigit true (BitVec.ofNat 5 u.toNat) :: digits (BitVec.ofNat 32 (u.toNat / 32))
      else [mkDigit false (BitVec.ofNat 5 u.toNat)]) ∧
    digits u = (List.range (groupLen u)).map fun i =>
      mkDigit (decide (i < groupLen u - 1)) (BitVec.ofNat 5 (u.toNat / 2 ^ (5 * i)))

/-- R68: the number of digits, from the word's bit length and from the integer, and the last payload of a group of seven. -/
def Obligations.GroupLengths : Prop :=
  (∀ u : Word, (digits u).length = groupLen u ∧ groupLen u = max 1 ((u.toNat.size + 4) / 5)) ∧
  (∀ n : Word, groupLen (zz n) =
    if n.toInt.natAbs ≤ 15 ∨ n = Config.minInt then 1
    else if n.toInt.natAbs ≤ 511 then 2
    else if n.toInt.natAbs ≤ 16383 then 3
    else if n.toInt.natAbs ≤ 524287 then 4
    else if n.toInt.natAbs ≤ 16777215 then 5
    else if n.toInt.natAbs ≤ 536870911 then 6
    else 7) ∧
  (∀ u : Word, groupLen u ≤ Config.maxGroup) ∧
  (∀ u : Word, groupLen u = 7 → (digits u).getLast? = some (mkDigit false (BitVec.ofNat 5 (u.toNat / 2 ^ 30))) ∧
    u.toNat / 2 ^ 30 ≤ 3)

/-- R70: every character the encoder emits is in the alphabet with a symbol value at most 63, so none is `=`. -/
def Obligations.EncoderNeverEmitsEquals : Prop :=
  ∀ n : Word, ∀ c ∈ encodeGroup n, (inv c).valid = true ∧ (inv c).val.toNat ≤ 63 ∧ c ≠ 0x3D#8

/-- R73: `ENC.WORD n` from the idle state, with a host that takes the characters. -/
def Obligations.EncWordEmitsItsGroup : Prop :=
  ∀ (n : Word) (s : State), s.encBusy = false → hostTakesChars s →
    ∃ ts : List EncOut,
      exec (.encWord n) s = .next { s with encU := 0#32, encBusy := false, encTrace := s.encTrace ++ ts } ∧
      ts.map EncOut.char = encodeGroup n ∧
      ts.map EncOut.last = List.replicate (ts.length - 1) false ++ [true] ∧
      ts.length = groupLen (zz n)

/-- Where `ENC.WORD n` is offered to a busy ENC the group in progress goes out first (log entry 5). Where the host takes no character
the operation gets as far as its first step, or nowhere, what was not offered is dropped, and while the wire `rst` is 1 the instruction
changes nothing (log entry 6). Both are the model's reading of R73, R74, R126 and R34 (DEDUCED), not words of these rules. -/
def Obligations.EncWordWaits : Prop :=
  (∀ (n : Word) (s : State), s.encBusy = true → hostTakesChars s →
    exec (.encWord n) s = .next { s with
      encU := 0#32, encBusy := false, encTrace := s.encTrace ++ (digits s.encU).map digitToken ++ groupTokens n }) ∧
  (∀ (n : Word) (s : State), s.encBusy = false → s.pins.rst = false → s.pins.encOutReady = false →
    exec (.encWord n) s = .next { s with encU := zz n, encBusy := true }) ∧
  (∀ (n : Word) (s : State), s.encBusy = true → s.pins.encOutReady = false → exec (.encWord n) s = .next s) ∧
  (∀ (n : Word) (s : State), s.pins.rst = true → exec (.encWord n) s = .next s)

/-- R74: `ENC.ACCEPT` loads the zig-zag word when ENC is idle, and waits while it is busy. That the instruction changes nothing while the
wire `rst` is 1 is the model's reading of R34 (log entry 6, DEDUCED): the reset itself is the clock edge's, `ResetEdge`. -/
def Obligations.EncAcceptLoadsZigzag : Prop :=
  (∀ (n : Word) (s : State), s.encBusy = false → s.pins.rst = false →
    exec (.encAccept n) s = .next { s with encU := zz n, encBusy := true }) ∧
  (∀ (n : Word) (s : State), s.encBusy = true ∨ s.pins.rst = true → exec (.encAccept n) s = .next s)

/-- R75: `ENC.EMIT` emits the low five bits and shifts them out; it waits while ENC is idle or the host takes nothing. That the
instruction changes nothing while the wire `rst` is 1 is the model's reading of R34 (log entry 6, DEDUCED). -/
def Obligations.EncEmitSendsOneDigit : Prop :=
  (∀ s : State, s.encBusy = true → hostTakesChars s →
    exec .encEmit s = .next { s with
      encU := BitVec.ofNat 32 (s.encU.toNat / 32)
      encBusy := decide (32 ≤ s.encU.toNat)
      encTrace := s.encTrace ++ [⟨decide (s.encU.toNat < 32),
        alphaDigit (BitVec.ofNat 6 (s.encU.toNat % 32 + if 32 ≤ s.encU.toNat then 32 else 0))⟩] }) ∧
  (∀ s : State, s.encBusy = false ∨ s.pins.encOutReady = false ∨ s.pins.rst = true → exec .encEmit s = .next s)

/-- R64, R72: `ENCODE` from the idle state emits the characters of `Encode`, and `ENCODE1` is `ENCODE` of one integer. -/
def Obligations.EncodeRunsItsWords : Prop :=
  (∀ (ns : List Word) (s : State), encIdle s → hostTakesChars s →
    ∃ ts : List EncOut, exec (.encode ns) s = .next { s with encTrace := s.encTrace ++ ts } ∧
      ts.map EncOut.char = encodeInts ns) ∧
  (∀ (n : Word) (s : State), encIdle s → hostTakesChars s →
    ∃ ts : List EncOut, exec (.encode1 n) s = .next { s with encTrace := s.encTrace ++ ts } ∧
      ts.map EncOut.char = encodeGroup n ∧ exec (.encode1 n) s = exec (.encode [n]) s)

/-- R50, R33: the `CHAR` token ENC offers crosses `ENC_OUT` with the step that emits it; no other token crosses. That a row of an output
token means its transfer is log entry 8. -/
def Obligations.CharTokenCrosses : Prop :=
  (∀ s : State, s.encBusy = true → hostTakesChars s →
    exec (.charToken (decide (s.encU.toNat < 32))
      (alphaDigit (BitVec.ofNat 6 (s.encU.toNat % 32 + if 32 ≤ s.encU.toNat then 32 else 0)))) s =
    .next { s with
      encU := BitVec.ofNat 32 (s.encU.toNat / 32)
      encBusy := decide (32 ≤ s.encU.toNat)
      encTrace := s.encTrace ++ [⟨decide (s.encU.toNat < 32),
        alphaDigit (BitVec.ofNat 6 (s.encU.toNat % 32 + if 32 ≤ s.encU.toNat then 32 else 0))⟩] }) ∧
  (∀ (last : Bool) (c : CharCode) (s : State),
    emitEnabled s = false ∨ encOutToken s ≠ ⟨last, c⟩ → exec (.charToken last c) s = .next s)

/-! ## The decoder (41_decoder.md, 60_exceptions.md) -/

/-- R80: the continuation flag and the payload of a symbol value. -/
def Obligations.SymbolSplits : Prop :=
  (∀ v : Symbol, v.toNat ≤ 31 → contOf v = false ∧ (payloadOf v).toNat = v.toNat) ∧
  (∀ v : Symbol, 32 ≤ v.toNat → v.toNat ≤ 63 → contOf v = true ∧ (payloadOf v).toNat = v.toNat - 32) ∧
  contOf 64#7 = false ∧ payloadOf 64#7 = 0#5

/-- R81: the accumulator, and what of a payload reaches it. The reduction modulo 2^32 is the spec's decision D5 (log entry 11). -/
def Obligations.AccumulatorAddsPayload : Prop :=
  ∀ (value : Word) (shift : BitVec 6) (p : Payload),
    (acc value shift p).toNat = (value.toNat + p.toNat * 2 ^ shift.toNat) % 2 ^ 32 ∧
    (32 ≤ shift.toNat → acc value shift p = value) ∧
    (shift.toNat = 30 → (acc value shift p).toNat = (value.toNat + p.toNat % 4 * 2 ^ 30) % 2 ^ 32) ∧
    (shift.toNat ≤ 25 → value.toNat < 2 ^ shift.toNat →
      (acc value shift p).toNat = value.toNat + p.toNat * 2 ^ shift.toNat)

/-- R82: the integer of a zig-zag word in the three arms, over the integers, and that `ZZinv` is the inverse of `ZZ`. -/
def Obligations.IntegerOfZigzag : Prop :=
  ∀ v : Word,
    (v.toNat % 2 = 0 → (zzInv v).toInt = v.toNat / 2) ∧
    (v.toNat % 2 = 1 → v.toNat / 2 ≠ 0 → (zzInv v).toInt = -((v.toNat / 2 : Nat) : Int)) ∧
    (v.toNat = 1 → (zzInv v).toInt = -2 ^ 31) ∧
    zz (zzInv v) = v ∧ ∀ n : Word, zzInv (zz n) = n

/-- R85: a terminating digit, or `=`, ends the group and emits its integer. -/
def Obligations.DecCharEndsGroup : Prop :=
  ∀ (c : CharCode) (v : Symbol) (s : State), inv c = ⟨true, v⟩ → v.toNat < 32 ∨ v.toNat = 64 →
    s.decFail = false → hostTakesDecOut s →
    ∃ w : Word, w = zzInv (BitVec.ofNat 32 (s.decValue.toNat + v.toNat % 32 * 2 ^ s.decShift.toNat)) ∧
      exec (.decChar c) s = .next { s with decValue := 0#32, decShift := 0#6, decRes := s.decRes ++ [w],
                                           decOut := s.decOut ++ [.word w] }

/-- R85: a continuation digit adds its payload and advances the shift; it emits nothing and so waits for no one. -/
def Obligations.DecCharContinuesGroup : Prop :=
  ∀ (c : CharCode) (v : Symbol) (s : State), inv c = ⟨true, v⟩ → 32 ≤ v.toNat → v.toNat ≤ 63 →
    s.decFail = false → s.pins.rst = false →
    exec (.decChar c) s = .next { s with
      decValue := BitVec.ofNat 32 (s.decValue.toNat + (v.toNat - 32) * 2 ^ s.decShift.toNat)
      decShift := BitVec.ofNat 6 (if s.decShift.toNat ≤ 30 then s.decShift.toNat + 5 else 35) }

/-- R108: a character outside the alphabet sets `DEC.FAIL` and changes nothing else, in both rows that name it. -/
def Obligations.BadCharacterFails : Prop :=
  ∀ (c : CharCode) (s : State), (inv c).valid = false → s.decFail = false → s.pins.rst = false →
    exec (.decChar c) s = .next { s with decFail := true } ∧
    exec (.decCharOutside c) s = .next { s with decFail := true }

/-- R116: while `DEC.FAIL` = 1 every `DEC.CHAR` token is taken and has no other effect. -/
def Obligations.FailedStringIgnoresCharacters : Prop :=
  ∀ s : State, s.decFail = true → s.pins.rst = false →
    (∀ c, decTakes false c s = true ∧ exec (.decChar c) s = .next s ∧ exec (.decCharOutside c) s = .next s) ∧
    (∀ p ∈ charForms, exec p.2 s = .next s)

/-- R35: a character that would end a group waits while the host takes no word, in the generic row and in the row of that character. That
no row of `DEC.CHAR` changes anything while the wire `rst` is 1 is the model's reading of R34 (log entry 6, DEDUCED): the reset itself is
the clock edge's, `ResetEdge`. -/
def Obligations.DecCharWaits : Prop :=
  (∀ (c : CharCode) (v : Symbol) (s : State), inv c = ⟨true, v⟩ → v.toNat < 32 ∨ v.toNat = 64 →
    s.decFail = false → s.pins.decOutReady = false →
    exec (.decChar c) s = .next s ∧ ∀ p ∈ charForms, p.1 = c → exec p.2 s = .next s) ∧
  (∀ s : State, s.pins.rst = true →
    (∀ c : CharCode, exec (.decChar c) s = .next s ∧ exec (.decCharOutside c) s = .next s) ∧
    ∀ p ∈ charForms, exec p.2 s = .next s)

/-- R30, R85: the 32 rows of terminating digits, each with its payload. -/
def Obligations.TerminatingFormsEndGroup : Prop :=
  ∀ p ∈ terminatingForms, ∀ s : State, s.decFail = false → hostTakesDecOut s →
    ∃ w : Word, w = zzInv (BitVec.ofNat 32 (s.decValue.toNat + p.2 * 2 ^ s.decShift.toNat)) ∧
      exec p.1 s = .next { s with decValue := 0#32, decShift := 0#6, decRes := s.decRes ++ [w],
                                  decOut := s.decOut ++ [.word w] }

/-- R30, R85: the 32 rows of continuation digits, each with its payload. -/
def Obligations.ContinuationFormsContinueGroup : Prop :=
  ∀ p ∈ continuationForms, ∀ s : State, s.decFail = false → s.pins.rst = false →
    exec p.1 s = .next { s with
      decValue := BitVec.ofNat 32 (s.decValue.toNat + p.2 * 2 ^ s.decShift.toNat)
      decShift := BitVec.ofNat 6 (if s.decShift.toNat ≤ 30 then s.decShift.toNat + 5 else 35) }

/-- R59: `=` ends the group and adds nothing, as `A` does. -/
def Obligations.EqualsActsAsA : Prop :=
  ∀ s : State, exec .decCharEquals s = exec .decCharUpperA s ∧
    (s.decFail = false → hostTakesDecOut s →
      exec .decCharEquals s = .next { s with
        decValue := 0#32, decShift := 0#6, decRes := s.decRes ++ [zzInv s.decValue]
        decOut := s.decOut ++ [.word (zzInv s.decValue)] })

/-- R86: `DEC.EOS` emits the verdict and puts the decoder into its reset state; it waits while the host does not take the verdict. That
the instruction changes nothing while the wire `rst` is 1 is the model's reading of R34 (log entry 6, DEDUCED): the reset itself is the
clock edge's, `ResetEdge`. -/
def Obligations.DecEosReportsAndClears : Prop :=
  (∀ (ignored : CharCode) (s : State), hostTakesDecOut s →
    exec (.decEos ignored) s = .next { s with
      decValue := 0#32, decShift := 0#6, decFail := false, decRes := []
      decOut := s.decOut ++ [.done (decide (s.decFail = false ∧ s.decShift = 0#6))] }) ∧
  (∀ (ignored : CharCode) (s : State), s.pins.decOutReady = false ∨ s.pins.rst = true →
    exec (.decEos ignored) s = .next s)

/-- R64, R84, R105: `DECODE` at the start of a string emits words and then one verdict, whose `DecResult` is `Decode`, and leaves the
decoder as it was. -/
def Obligations.DecodeRunsItsString : Prop :=
  ∀ (cs : List CharCode) (s : State), atGroupStart s → s.decRes = [] → hostTakesDecOut s →
    ∃ (ws : List Word) (ok : Bool),
      exec (.decode cs) s = .next { s with decOut := s.decOut ++ (ws.map DecOut.word ++ [.done ok]) } ∧
      decResult (ws.map DecOut.word ++ [.done ok]) = decodeStr cs

/-- R52, R33: the `WORD` DEC offers crosses `DEC_OUT` with the step that takes the character offered; no other word crosses. That a row
of an output token means its transfer is log entry 8. -/
def Obligations.WordTokenCrosses : Prop :=
  (∀ (v : Symbol) (s : State), s.pins.decInValid = true → s.pins.decInEos = false → inv s.pins.decInChar = ⟨true, v⟩ →
    v.toNat < 32 ∨ v.toNat = 64 → s.decFail = false → hostTakesDecOut s →
    ∃ w : Word, w = zzInv (BitVec.ofNat 32 (s.decValue.toNat + v.toNat % 32 * 2 ^ s.decShift.toNat)) ∧
      exec (.wordToken w) s = .next { s with decValue := 0#32, decShift := 0#6, decRes := s.decRes ++ [w],
                                             decOut := s.decOut ++ [.word w] }) ∧
  (∀ (w : Word) (s : State), decOutOffered s ≠ some (.word w) ∨ s.pins.decOutReady = false →
    exec (.wordToken w) s = .next s)

/-- R52, R33: the `DONE` of an offered `DEC.EOS` crosses `DEC_OUT` with that step; no other verdict crosses. That a row of an output
token means its transfer is log entry 8. -/
def Obligations.DoneTokenCrosses : Prop :=
  (∀ s : State, s.pins.decInValid = true → s.pins.decInEos = true → hostTakesDecOut s →
    exec (.doneToken (decide (s.decFail = false ∧ s.decShift = 0#6))) s = .next { s with
      decValue := 0#32, decShift := 0#6, decFail := false, decRes := []
      decOut := s.decOut ++ [.done (decide (s.decFail = false ∧ s.decShift = 0#6))] }) ∧
  (∀ (ok : Bool) (s : State), decOutOffered s ≠ some (.done ok) ∨ s.pins.decOutReady = false →
    exec (.doneToken ok) s = .next s)

/-- R87: after a `DEC.EOS`, whatever came before it, the result of the next string is a function of its characters. -/
def Obligations.StringsAreIndependent : Prop :=
  ∀ (s : State) (ignored : CharCode) (cs : List CharCode), hostTakesDecOut s →
    ∃ (t u : State) (ws : List Word) (ok : Bool), exec (.decEos ignored) s = .next t ∧ exec (.decode cs) t = .next u ∧
      u.decOut = t.decOut ++ (ws.map DecOut.word ++ [.done ok]) ∧
      decResult (ws.map DecOut.word ++ [.done ok]) = decodeStr cs

/-! ## The laws of the codec (42_codec_laws.md) -/

/-- R93: where the decoder's invariant holds, adding the payload is a bitwise OR. -/
def Obligations.AccumulatorIsOr : Prop :=
  ∀ (s : State) (p : Payload), decInv s →
    acc s.decValue s.decShift p = s.decValue ||| BitVec.ofNat 32 (p.toNat * 2 ^ s.decShift.toNat)

/-- R94: `ZZ` is a bijection and `ZZinv` is its inverse, with the words of the four kinds of integers. -/
def Obligations.ZigzagIsBijection : Prop :=
  (∀ n : Word, zzInv (zz n) = n) ∧ (∀ v : Word, zz (zzInv v) = v) ∧
  zz 0#32 = 0#32 ∧ zz Config.minInt = 1#32 ∧
  (∀ n : Word, 1 ≤ n.toInt → ((zz n).toNat : Int) = 2 * n.toInt) ∧
  (∀ n : Word, n.toInt ≤ -1 → -2 ^ 31 < n.toInt → ((zz n).toNat : Int) = -2 * n.toInt + 1)

/-- R95: the accumulator undoes the digit packer: the payloads sum to the word, only the last digit has no continuation bit, and a
decoder at the start of a group passes through the words modulo 2^(5(i+1)). -/
def Obligations.AccumulatorUndoesDigits : Prop :=
  ∀ u : Word,
    payloadSum ((digits u).map fun d => d.extractLsb' 0 5) = u.toNat ∧
    (digits u).map (fun d => d.getLsbD 5) = List.replicate ((digits u).length - 1) true ++ [false] ∧
    (∀ i, i + 1 < (digits u).length →
      (((digits u).map alphaDigit).take (i + 1)).foldl stepChar ds0 =
        ⟨BitVec.ofNat 32 (u.toNat % 2 ^ (5 * (i + 1))), BitVec.ofNat 6 (5 * (i + 1)), false, []⟩) ∧
    ((digits u).map alphaDigit).foldl stepChar ds0 = ⟨0#32, 0#6, false, [zzInv u]⟩

/-- R96: the groups of different integers are no prefixes of one another, and `Encode` is injective. -/
def Obligations.GroupsArePrefixFree : Prop :=
  (∀ n m : Word, encodeGroup n <+: encodeGroup m → n = m) ∧
  (∀ ns ms : List Word, encodeInts ns = encodeInts ms → ns = ms)

/-- R97: the round trip. -/
def Obligations.DecodeOfEncode : Prop :=
  ∀ ns : List Word, decodeStr (encodeInts ns) = some ns

/-- R98: the single and the list form of the encoder agree, and both are the one operation `ENC.WORD`. -/
def Obligations.SingleEncodesAsList : Prop :=
  ∀ n : Word, encodeGroup n = encodeInts [n] ∧
    ∀ s : State, exec (.encode1 n) s = exec (.encWord n) s ∧ exec (.encode [n]) s = exec (.encWord n) s

/-- R99: a string fails to decode exactly when it holds a character outside the alphabet or ends with a continuation digit. -/
def Obligations.DecodeFailsExactlyWhen : Prop :=
  ∀ cs : List CharCode, decodeStr cs = none ↔
    (∃ c ∈ cs, (inv c).valid = false) ∨
    (∃ c, cs.getLast? = some c ∧ (inv c).valid = true ∧ 32 ≤ (inv c).val.toNat ∧ (inv c).val.toNat ≤ 63)

/-- R102: zeros are `A`s, in both directions. -/
def Obligations.ZerosAreAs : Prop :=
  ∀ k : Nat, encodeInts (List.replicate k 0#32) = List.replicate k 0x41#8 ∧
    decodeStr (List.replicate k 0x41#8) = some (List.replicate k 0#32)

/-- R103: encoding a decoded string gives the string back exactly when all its groups are canonical, and is never longer. -/
def Obligations.EncodeOfDecode : Prop :=
  ∀ (cs : List CharCode) (ns : List Word), decodeStr cs = some ns →
    (encodeInts ns = cs ↔ ∀ g ∈ (splitGroups cs).1, canonicalForm g = true) ∧
    (encodeInts ns).length ≤ cs.length

/-! ## Steps, edges and reset (20_memory.md, 70_reset_and_hazards.md) -/

/-- A step runs the decoded instruction: the one the offered token stands for, or, at the edge of a clock period, ENC's internal step
(R73, R76) and then the operation of the token offered to DEC (R54). That the host's moves stand in the state, and what a token move
is, are log entries 1, 3 and 4. -/
def Obligations.StepRunsDecoded : Prop :=
  (∀ (s : State) (t : Token) (rest : List HostMove) (i : Instr), s.script = .token t :: rest → decodeToken t = .ok i →
    step s = exec i { s with script := rest, pins := servingPins t s.pins }) ∧
  (∀ (s : State) (p : Pins) (rest : List HostMove), s.script = .period p :: rest → p.rst = false →
    step s = andThen
      (if s.encBusy then exec .encEmit { s with script := rest, pins := p }
       else if p.encInValid then exec (.encAccept p.encInData) { s with script := rest, pins := p }
       else .next { s with script := rest, pins := p })
      (fun s1 => if p.decInValid then exec (decodeDecIn (decInBits p.decInEos p.decInChar)) s1 else .next s1)) ∧
  (∀ (s : State) (t : Token) (rest : List HostMove) (e : DecodeError), s.script = .token t :: rest →
    decodeToken t = .error e → step s = .refused .noSuchToken)

/-- R111, R115, R88: no instruction stops the block, in any state; a step gives a next state unless the host names bits that are no token
of their output stream. -/
def Obligations.BlockNeverStops : Prop :=
  (∀ (i : Instr) (s : State), ∃ t, exec i s = .next t) ∧
  (∀ (p : Pins) (s : State), ∃ t, edge p s = .next t) ∧
  (∀ s : State, (∀ (t : Token) (rest : List HostMove), s.script = .token t :: rest → ∃ i, decodeToken t = .ok i) →
    ∃ t, step s = .next t)

/-- R121: an edge with `rst` = 1 gives every piece of state its reset value, and no token moves. -/
def Obligations.ResetEdge : Prop :=
  ∀ (p : Pins) (s : State), p.rst = true →
    edge p s = .next { State.reset with pins := p, script := s.script } ∧
    encInReady (s.drive p) = false ∧ encOutValid (s.drive p) = false ∧
    decInReady (s.drive p) = some false ∧ decOutValid (s.drive p) = false

/-- R28: the values after reset, and the handshake outputs once reset is released: `enc_in_ready` is 1, no output is offered to a host
that offers nothing, and `dec_in_ready` is 1 for a token that emits nothing and `dec_out_ready` for a token that emits. -/
def Obligations.StateAfterReset : Prop :=
  State.reset.encU = 0#32 ∧ State.reset.encBusy = false ∧ State.reset.decValue = 0#32 ∧ State.reset.decShift = 0#6 ∧
  State.reset.decFail = false ∧ decOpen State.reset = false ∧ State.reset.encTrace = [] ∧ State.reset.decRes = [] ∧
  (∀ p : Pins, p.rst = false → encInReady (State.reset.drive p) = true ∧ encOutValid (State.reset.drive p) = false ∧
    (p.decInValid = false → decOutValid (State.reset.drive p) = false) ∧
    (p.decInValid = true → decInReady (State.reset.drive p) =
      some ((emission p.decInEos p.decInChar State.reset).isNone || p.decOutReady)))

/-- R27: the invariants hold at reset. -/
def Obligations.ResetMeetsInvariant : Prop := blockInv State.reset

/-- R27 items 1 to 4, R50, R20: every step keeps the invariants. -/
def Obligations.StepKeepsInvariant : Prop :=
  ∀ s t : State, blockInv s → step s = .next t → blockInv t

/-- R27 item 6, R116: while `DEC.FAIL` = 1 an edge that neither resets nor ends the string changes nothing of DEC. -/
def Obligations.FailedDecoderIsFrozen : Prop :=
  ∀ (p : Pins) (s : State), s.decFail = true → p.rst = false → (p.decInValid && p.decInEos) = false →
    ∃ t, edge p s = .next t ∧ sameDec t s

/-- R107, R19: `DEC.FAIL` is set only by an edge that takes a character outside the alphabet. -/
def Obligations.OnlyBadCharactersSetFail : Prop :=
  ∀ (p : Pins) (s t : State), edge p s = .next t → s.decFail = false → t.decFail = true →
    p.rst = false ∧ p.decInValid = true ∧ p.decInEos = false ∧ (inv p.decInChar).valid = false

/-- R5, R41 item 4: what ENC does at an edge depends on ENC and its own wires only, and the same for DEC. -/
def Obligations.AgentsDoNotInterfere : Prop :=
  ∀ (p q : Pins) (s t : State), p.rst = q.rst →
    ∃ s' t', edge p s = .next s' ∧ edge q t = .next t' ∧
      (sameEnc s t → p.encInValid = q.encInValid → p.encInData = q.encInData → p.encOutReady = q.encOutReady →
        sameEnc s' t') ∧
      (sameDec s t → p.decInValid = q.decInValid → p.decInEos = q.decInEos → p.decInChar = q.decInChar →
        p.decOutReady = q.decOutReady → sameDec s' t')

/-- R35, R126: an agent whose output the host does not take waits with its state unchanged. -/
def Obligations.AgentsWaitForTheHost : Prop :=
  (∀ (p : Pins) (s : State), p.rst = false → s.encBusy = true → p.encOutReady = false →
    ∃ t, edge p s = .next t ∧ sameEnc t s ∧ encOutToken t = encOutToken s) ∧
  (∀ (p : Pins) (s : State), p.rst = false → p.decInValid = true → p.decOutReady = false →
    emission p.decInEos p.decInChar s ≠ none →
    ∃ t, edge p s = .next t ∧ sameDec t s ∧ decOutOffered (s.drive p) = emission p.decInEos p.decInChar s)

/-- R33: an edge without reset takes nothing back: the tokens carried before it are a prefix of those carried after it, by at most one
token on each stream. The `DEC_OUT` tokens are the model's own trace, log entry 7. -/
def Obligations.StreamsOnlyGrow : Prop :=
  ∀ (p : Pins) (s : State), p.rst = false →
    ∃ (t : State) (e : Option EncOut) (d : Option DecOut), edge p s = .next t ∧
      t.encTrace = s.encTrace ++ e.toList ∧ t.decOut = s.decOut ++ d.toList

/-- R132: with nothing left to offer and ENC idle, a step changes nothing of the block. That an empty script is idle clock periods is log
entry 16. -/
def Obligations.FinishedRunStays : Prop :=
  ∀ s : State, s.script = [] → s.encBusy = false →
    ∃ t, step s = .next t ∧ sameEnc t s ∧ sameDec t s ∧ t.script = []

/-! ## Runs (42_codec_laws.md R104 to R106) -/

/-- R73, R104, R133: the whole `ENC.WORD` and its 1 + GroupLen steps, one a clock period, leave ENC the same. -/
def Obligations.WordIsItsSteps : Prop :=
  ∀ (n : Word) (p : Pins) (ps : List Pins) (s : State), s.encBusy = false →
    p.rst = false → p.encInValid = true → p.encInData = n →
    ps.length = groupLen (zz n) → (∀ q ∈ ps, q.rst = false ∧ q.encOutReady = true) →
    ∃ t, exec (.encWord n) (s.drive { p with encOutReady := true }) = .next t ∧ sameEnc (afterPeriods (p :: ps) s) t

/-- R104: under every pattern of clock periods without reset, what ENC has emitted is `Encode` of the integers it has taken, but for
what it still holds of the last one; idle, it is exactly that, and `last` marks the ends of the groups. -/
def Obligations.EncoderEmitsEncode : Prop :=
  ∀ (ps : List Pins) (s : State), encIdle s → (∀ p ∈ ps, p.rst = false) →
    ∃ ts : List EncOut, (afterPeriods ps s).encTrace = s.encTrace ++ ts ∧
      ts ++ (if (afterPeriods ps s).encBusy then (digits (afterPeriods ps s).encU).map digitToken else []) =
        (intsTaken ps s).flatMap groupTokens ∧
      ((afterPeriods ps s).encBusy = false →
        (afterPeriods ps s).encU = 0#32 ∧ ts.map EncOut.char = encodeInts (intsTaken ps s))

/-- R105: under every pattern of clock periods without reset, from the start of a string, the decoder's registers and trace are the fold
of `StepChar` over the open string, and the results of the closed strings are their `Decode`s. -/
def Obligations.DecoderComputesDecode : Prop :=
  ∀ (ps : List Pins) (s : State), atGroupStart s → s.decRes = [] → (∀ p ∈ ps, p.rst = false) →
    dsOf (afterPeriods ps s) = (stringsOf (decTokensTaken ps s)).2.foldl stepChar ds0 ∧
    ∃ ts : List DecOut, (afterPeriods ps s).decOut = s.decOut ++ ts ∧
      (resultsOf ts).1.map decResult = (stringsOf (decTokensTaken ps s)).1.map decodeStr

/-- R106: with ENC's characters wired to DEC, DEC emits the integer given to ENC in the very step that takes the last character of its
group, and not before; a `DEC.EOS` after a sequence of integers reports success. -/
def Obligations.LoopBack : Prop :=
  (∀ (n : Word) (s : State), encIdle s → atGroupStart s →
    (loopWord n 1 s).decOut = s.decOut ∧
    (loopWord n 0 s).decOut = s.decOut ++ [.word n] ∧ (loopWord n 0 s).decRes = s.decRes ++ [n] ∧
    encIdle (loopWord n 0 s) ∧ atGroupStart (loopWord n 0 s)) ∧
  (∀ (ns : List Word) (s : State) (p : Pins), encIdle s → atGroupStart s →
    p.rst = false → p.decInValid = true → p.decInEos = true → p.decOutReady = true →
    (afterEdge p (ns.foldl (fun s n => loopWord n 0 s) s)).decOut = s.decOut ++ ns.map DecOut.word ++ [.done true])
end

