-- ==== Sys2Proof/Laws/Decode.lean ====
section
/-! SUPPORT. The fields of a token's bits, and what the decoder answers on the bits of each kind of token. -/

namespace Sys2Proof.Laws

open Sys2Proof

@[simp] theorem decInEosOf_bits (eos : Bool) (c : CharCode) : decInEosOf (decInBits eos c) = eos := by
  revert eos c; decide

@[simp] theorem decInCharOf_bits (eos : Bool) (c : CharCode) : decInCharOf (decInBits eos c) = c := by
  revert eos c; decide

/-- A `DEC_IN` token is its two fields. -/
theorem decInBits_fields (t : BitVec 9) : decInBits (decInEosOf t) (decInCharOf t) = t := by
  revert t; decide

theorem encOut_bits_last (t : EncOut) : t.bits.getLsbD 8 = t.last :=
  decInEosOf_bits t.last t.char

theorem encOut_bits_char (t : EncOut) : t.bits.extractLsb' 0 8 = t.char :=
  decInCharOf_bits t.last t.char

/-- A token the encoder can form decodes to the row of its fields. -/
theorem decodeEncOut_bits (t : EncOut) (h : Machine.encOutLegal t = true) :
    decodeEncOut t.bits = .ok (.charToken t.last t.char) := by
  simp only [decodeEncOut, encOut_bits_last, encOut_bits_char]
  exact if_pos h

@[simp] theorem decodeDecIn_char (c : CharCode) : decodeDecIn (decInBits false c) = decodeChar c := by
  simp [decodeDecIn]

@[simp] theorem decodeDecIn_eos (c : CharCode) : decodeDecIn (decInBits true c) = .decEos c := by
  simp [decodeDecIn]

theorem decodeDecOut_word (d : Word) : decodeDecOut (DecOut.bits (.word d)) = .ok (.wordToken d) := by
  have h1 : (DecOut.bits (.word d)).getLsbD 32 = false := by
    change (0#1 ++ d : BitVec (1 + 32)).getLsbD 32 = false
    rw [BitVec.getLsbD_append]; simp
  have h2 : (DecOut.bits (.word d)).extractLsb' 0 32 = d := by
    apply BitVec.eq_of_getLsbD_eq
    intro i hi
    change ((0#1 ++ d : BitVec (1 + 32)).extractLsb' 0 32).getLsbD i = d.getLsbD i
    rw [BitVec.getLsbD_extractLsb', BitVec.getLsbD_append]; simp [hi]
  simp only [decodeDecOut, h1, h2, Bool.false_eq_true, if_false]

theorem decodeDecOut_done (ok : Bool) : decodeDecOut (DecOut.bits (.done ok)) = .ok (.doneToken ok) := by
  cases ok <;> decide

/-- A code outside the alphabet has no row of its own, and only such a code has none. -/
theorem charForms_none : ∀ c : CharCode, (charForms.lookup c).isNone = !(Machine.inv c).valid := by decide

theorem decodeChar_outside (c : CharCode) (h : (Machine.inv c).valid = false) : decodeChar c = .decChar c := by
  have hn : charForms.lookup c = none := by simpa [h] using charForms_none c
  simp [decodeChar, hn]

/-- Each row of the table of operand forms is the instruction whose token is that code. -/
theorem charForms_encode : ∀ p ∈ charForms, encodeInstr p.2 = [.decIn (decInBits false p.1)] := by decide

end Sys2Proof.Laws
end

