-- ==== Sys2Proof/Laws/State.lean ====
section
/-! SUPPORT. One lemma per field of `State` for each update of Machine/Ops.lean, so that no proof unfolds a record update. -/

namespace Sys2Proof.Laws

open Sys2Proof.Machine

variable (s : State)

@[simp] theorem drive_encU (p : Pins) : (s.drive p).encU = s.encU := rfl
@[simp] theorem drive_encBusy (p : Pins) : (s.drive p).encBusy = s.encBusy := rfl
@[simp] theorem drive_decValue (p : Pins) : (s.drive p).decValue = s.decValue := rfl
@[simp] theorem drive_decShift (p : Pins) : (s.drive p).decShift = s.decShift := rfl
@[simp] theorem drive_decFail (p : Pins) : (s.drive p).decFail = s.decFail := rfl
@[simp] theorem drive_encTrace (p : Pins) : (s.drive p).encTrace = s.encTrace := rfl
@[simp] theorem drive_decRes (p : Pins) : (s.drive p).decRes = s.decRes := rfl
@[simp] theorem drive_decOut (p : Pins) : (s.drive p).decOut = s.decOut := rfl
@[simp] theorem drive_pins (p : Pins) : (s.drive p).pins = p := rfl
@[simp] theorem drive_script (p : Pins) : (s.drive p).script = s.script := rfl

@[simp] theorem resetBlock_encU : (resetBlock s).encU = 0#32 := rfl
@[simp] theorem resetBlock_encBusy : (resetBlock s).encBusy = false := rfl
@[simp] theorem resetBlock_decValue : (resetBlock s).decValue = 0#32 := rfl
@[simp] theorem resetBlock_decShift : (resetBlock s).decShift = 0#6 := rfl
@[simp] theorem resetBlock_decFail : (resetBlock s).decFail = false := rfl
@[simp] theorem resetBlock_encTrace : (resetBlock s).encTrace = [] := rfl
@[simp] theorem resetBlock_decRes : (resetBlock s).decRes = [] := rfl
@[simp] theorem resetBlock_decOut : (resetBlock s).decOut = [] := rfl
@[simp] theorem resetBlock_pins : (resetBlock s).pins = s.pins := rfl
@[simp] theorem resetBlock_script : (resetBlock s).script = s.script := rfl

@[simp] theorem emitEncOut_encU (t : EncOut) : (emitEncOut t s).encU = s.encU := rfl
@[simp] theorem emitEncOut_encBusy (t : EncOut) : (emitEncOut t s).encBusy = s.encBusy := rfl
@[simp] theorem emitEncOut_decValue (t : EncOut) : (emitEncOut t s).decValue = s.decValue := rfl
@[simp] theorem emitEncOut_decShift (t : EncOut) : (emitEncOut t s).decShift = s.decShift := rfl
@[simp] theorem emitEncOut_decFail (t : EncOut) : (emitEncOut t s).decFail = s.decFail := rfl
@[simp] theorem emitEncOut_encTrace (t : EncOut) : (emitEncOut t s).encTrace = s.encTrace ++ [t] := rfl
@[simp] theorem emitEncOut_decRes (t : EncOut) : (emitEncOut t s).decRes = s.decRes := rfl
@[simp] theorem emitEncOut_decOut (t : EncOut) : (emitEncOut t s).decOut = s.decOut := rfl
@[simp] theorem emitEncOut_pins (t : EncOut) : (emitEncOut t s).pins = s.pins := rfl
@[simp] theorem emitEncOut_script (t : EncOut) : (emitEncOut t s).script = s.script := rfl

@[simp] theorem emitWord_encU (w : Word) : (emitWord w s).encU = s.encU := rfl
@[simp] theorem emitWord_encBusy (w : Word) : (emitWord w s).encBusy = s.encBusy := rfl
@[simp] theorem emitWord_decValue (w : Word) : (emitWord w s).decValue = s.decValue := rfl
@[simp] theorem emitWord_decShift (w : Word) : (emitWord w s).decShift = s.decShift := rfl
@[simp] theorem emitWord_decFail (w : Word) : (emitWord w s).decFail = s.decFail := rfl
@[simp] theorem emitWord_encTrace (w : Word) : (emitWord w s).encTrace = s.encTrace := rfl
@[simp] theorem emitWord_decRes (w : Word) : (emitWord w s).decRes = s.decRes ++ [w] := rfl
@[simp] theorem emitWord_decOut (w : Word) : (emitWord w s).decOut = s.decOut ++ [.word w] := rfl
@[simp] theorem emitWord_pins (w : Word) : (emitWord w s).pins = s.pins := rfl
@[simp] theorem emitWord_script (w : Word) : (emitWord w s).script = s.script := rfl

@[simp] theorem emitDone_encU (ok : Bool) : (emitDone ok s).encU = s.encU := rfl
@[simp] theorem emitDone_encBusy (ok : Bool) : (emitDone ok s).encBusy = s.encBusy := rfl
@[simp] theorem emitDone_decValue (ok : Bool) : (emitDone ok s).decValue = s.decValue := rfl
@[simp] theorem emitDone_decShift (ok : Bool) : (emitDone ok s).decShift = s.decShift := rfl
@[simp] theorem emitDone_decFail (ok : Bool) : (emitDone ok s).decFail = s.decFail := rfl
@[simp] theorem emitDone_encTrace (ok : Bool) : (emitDone ok s).encTrace = s.encTrace := rfl
@[simp] theorem emitDone_decRes (ok : Bool) : (emitDone ok s).decRes = s.decRes := rfl
@[simp] theorem emitDone_decOut (ok : Bool) : (emitDone ok s).decOut = s.decOut ++ [.done ok] := rfl
@[simp] theorem emitDone_pins (ok : Bool) : (emitDone ok s).pins = s.pins := rfl
@[simp] theorem emitDone_script (ok : Bool) : (emitDone ok s).script = s.script := rfl

@[simp] theorem raiseBadChar_encU : (raiseBadChar s).encU = s.encU := rfl
@[simp] theorem raiseBadChar_encBusy : (raiseBadChar s).encBusy = s.encBusy := rfl
@[simp] theorem raiseBadChar_decValue : (raiseBadChar s).decValue = s.decValue := rfl
@[simp] theorem raiseBadChar_decShift : (raiseBadChar s).decShift = s.decShift := rfl
@[simp] theorem raiseBadChar_decFail : (raiseBadChar s).decFail = true := rfl
@[simp] theorem raiseBadChar_encTrace : (raiseBadChar s).encTrace = s.encTrace := rfl
@[simp] theorem raiseBadChar_decRes : (raiseBadChar s).decRes = s.decRes := rfl
@[simp] theorem raiseBadChar_decOut : (raiseBadChar s).decOut = s.decOut := rfl
@[simp] theorem raiseBadChar_pins : (raiseBadChar s).pins = s.pins := rfl
@[simp] theorem raiseBadChar_script : (raiseBadChar s).script = s.script := rfl

@[simp] theorem clearString_encU : (clearString s).encU = s.encU := rfl
@[simp] theorem clearString_encBusy : (clearString s).encBusy = s.encBusy := rfl
@[simp] theorem clearString_decValue : (clearString s).decValue = 0#32 := rfl
@[simp] theorem clearString_decShift : (clearString s).decShift = 0#6 := rfl
@[simp] theorem clearString_decFail : (clearString s).decFail = false := rfl
@[simp] theorem clearString_encTrace : (clearString s).encTrace = s.encTrace := rfl
@[simp] theorem clearString_decRes : (clearString s).decRes = [] := rfl
@[simp] theorem clearString_decOut : (clearString s).decOut = s.decOut := rfl
@[simp] theorem clearString_pins : (clearString s).pins = s.pins := rfl
@[simp] theorem clearString_script : (clearString s).script = s.script := rfl

@[simp] theorem clearGroup_encU : (clearGroup s).encU = s.encU := rfl
@[simp] theorem clearGroup_encBusy : (clearGroup s).encBusy = s.encBusy := rfl
@[simp] theorem clearGroup_decValue : (clearGroup s).decValue = 0#32 := rfl
@[simp] theorem clearGroup_decShift : (clearGroup s).decShift = 0#6 := rfl
@[simp] theorem clearGroup_decFail : (clearGroup s).decFail = s.decFail := rfl
@[simp] theorem clearGroup_encTrace : (clearGroup s).encTrace = s.encTrace := rfl
@[simp] theorem clearGroup_decRes : (clearGroup s).decRes = s.decRes := rfl
@[simp] theorem clearGroup_decOut : (clearGroup s).decOut = s.decOut := rfl
@[simp] theorem clearGroup_pins : (clearGroup s).pins = s.pins := rfl
@[simp] theorem clearGroup_script : (clearGroup s).script = s.script := rfl

@[simp] theorem acceptWord_encU (n : Word) : (acceptWord n s).encU = zz n := rfl
@[simp] theorem acceptWord_encBusy (n : Word) : (acceptWord n s).encBusy = true := rfl
@[simp] theorem acceptWord_decValue (n : Word) : (acceptWord n s).decValue = s.decValue := rfl
@[simp] theorem acceptWord_decShift (n : Word) : (acceptWord n s).decShift = s.decShift := rfl
@[simp] theorem acceptWord_decFail (n : Word) : (acceptWord n s).decFail = s.decFail := rfl
@[simp] theorem acceptWord_encTrace (n : Word) : (acceptWord n s).encTrace = s.encTrace := rfl
@[simp] theorem acceptWord_decRes (n : Word) : (acceptWord n s).decRes = s.decRes := rfl
@[simp] theorem acceptWord_decOut (n : Word) : (acceptWord n s).decOut = s.decOut := rfl
@[simp] theorem acceptWord_pins (n : Word) : (acceptWord n s).pins = s.pins := rfl
@[simp] theorem acceptWord_script (n : Word) : (acceptWord n s).script = s.script := rfl

@[simp] theorem emitDigit_encU : (emitDigit s).encU = restOf s.encU := rfl
@[simp] theorem emitDigit_encBusy : (emitDigit s).encBusy = moreAfter s.encU := rfl
@[simp] theorem emitDigit_decValue : (emitDigit s).decValue = s.decValue := rfl
@[simp] theorem emitDigit_decShift : (emitDigit s).decShift = s.decShift := rfl
@[simp] theorem emitDigit_decFail : (emitDigit s).decFail = s.decFail := rfl
@[simp] theorem emitDigit_encTrace : (emitDigit s).encTrace = s.encTrace ++ [encOutToken s] := rfl
@[simp] theorem emitDigit_decRes : (emitDigit s).decRes = s.decRes := rfl
@[simp] theorem emitDigit_decOut : (emitDigit s).decOut = s.decOut := rfl
@[simp] theorem emitDigit_pins : (emitDigit s).pins = s.pins := rfl
@[simp] theorem emitDigit_script : (emitDigit s).script = s.script := rfl

@[simp] theorem takeEos_encU : (takeEos s).encU = s.encU := rfl
@[simp] theorem takeEos_encBusy : (takeEos s).encBusy = s.encBusy := rfl
@[simp] theorem takeEos_decValue : (takeEos s).decValue = 0#32 := rfl
@[simp] theorem takeEos_decShift : (takeEos s).decShift = 0#6 := rfl
@[simp] theorem takeEos_decFail : (takeEos s).decFail = false := rfl
@[simp] theorem takeEos_encTrace : (takeEos s).encTrace = s.encTrace := rfl
@[simp] theorem takeEos_decRes : (takeEos s).decRes = [] := rfl
@[simp] theorem takeEos_decOut : (takeEos s).decOut = s.decOut ++ [.done (verdict s)] := rfl
@[simp] theorem takeEos_pins : (takeEos s).pins = s.pins := rfl
@[simp] theorem takeEos_script : (takeEos s).script = s.script := rfl

end Sys2Proof.Laws
end

