-- ==== Sys2Proof/Laws/Ops.lean ====
section
/-! SUPPORT. For each shared operation of Machine/Ops.lean, once, everything it can do. -/

namespace Sys2Proof.Laws

open Sys2Proof Sys2Proof.Machine

/-! The body of `DEC.CHAR`: its four cases, and the list of them. -/

theorem takeChar_failed (c : CharCode) (s : State) (h : s.decFail = true) : takeChar c s = s := by
  simp [takeChar, h]

theorem takeChar_bad (c : CharCode) (s : State) (h : s.decFail = false) (hc : lookup c = none) :
    takeChar c s = raiseBadChar s := by
  simp [takeChar, h, hc]

theorem takeChar_continues (c : CharCode) (s : State) (v : Symbol) (h : s.decFail = false) (hc : lookup c = some v)
    (hv : contOf v = true) :
    takeChar c s = { s with decValue := acc s.decValue s.decShift (payloadOf v), decShift := nextShift s.decShift } := by
  simp [takeChar, h, hc, hv]

theorem takeChar_ends (c : CharCode) (s : State) (v : Symbol) (h : s.decFail = false) (hc : lookup c = some v)
    (hv : contOf v = false) :
    takeChar c s = clearGroup (emitWord (zzInv (acc s.decValue s.decShift (payloadOf v))) s) := by
  simp [takeChar, h, hc, hv]

/-- Everything the body of `DEC.CHAR` can do. -/
theorem takeChar_cases (c : CharCode) (s : State) :
    (s.decFail = true ∧ takeChar c s = s) ∨
    (s.decFail = false ∧ lookup c = none ∧ takeChar c s = raiseBadChar s) ∨
    (∃ v, s.decFail = false ∧ lookup c = some v ∧ contOf v = true ∧
      takeChar c s = { s with decValue := acc s.decValue s.decShift (payloadOf v), decShift := nextShift s.decShift }) ∨
    (∃ v, s.decFail = false ∧ lookup c = some v ∧ contOf v = false ∧
      takeChar c s = clearGroup (emitWord (zzInv (acc s.decValue s.decShift (payloadOf v))) s)) := by
  rcases Bool.eq_false_or_eq_true s.decFail with hf | hf
  · exact .inl ⟨hf, takeChar_failed c s hf⟩
  cases hc : lookup c with
  | none => exact .inr (.inl ⟨hf, rfl, takeChar_bad c s hf hc⟩)
  | some v =>
    rcases Bool.eq_false_or_eq_true (contOf v) with hv | hv
    · exact .inr (.inr (.inl ⟨v, hf, rfl, hv, takeChar_continues c s v hf hc hv⟩))
    · exact .inr (.inr (.inr ⟨v, hf, rfl, hv, takeChar_ends c s v hf hc hv⟩))

/-- `DEC.CHAR` touches nothing of ENC and nothing of the host. -/
theorem takeChar_frame (c : CharCode) (s : State) :
    (takeChar c s).encU = s.encU ∧ (takeChar c s).encBusy = s.encBusy ∧ (takeChar c s).encTrace = s.encTrace ∧
      (takeChar c s).pins = s.pins ∧ (takeChar c s).script = s.script := by
  obtain ⟨-, h⟩ | ⟨-, -, h⟩ | ⟨v, -, -, -, h⟩ | ⟨v, -, -, -, h⟩ := takeChar_cases c s <;> simp [h]

@[simp] theorem takeChar_pins (c : CharCode) (s : State) : (takeChar c s).pins = s.pins := (takeChar_frame c s).2.2.2.1

@[simp] theorem takeChar_script (c : CharCode) (s : State) : (takeChar c s).script = s.script := (takeChar_frame c s).2.2.2.2

/-! The steps with their enabling: the body, or nothing. -/

theorem offerWord_cases (n : Word) (s : State) :
    (encInReady s = true ∧ offerWord n s = acceptWord n s) ∨ (encInReady s = false ∧ offerWord n s = s) := by
  cases h : encInReady s <;> simp [offerWord, h]

theorem tryEmit_cases (s : State) :
    (emitEnabled s = true ∧ tryEmit s = emitDigit s) ∨ (emitEnabled s = false ∧ tryEmit s = s) := by
  cases h : emitEnabled s <;> simp [tryEmit, h]

theorem offerChar_cases (c : CharCode) (s : State) :
    (decTakes false c s = true ∧ offerChar c s = takeChar c s) ∨ (decTakes false c s = false ∧ offerChar c s = s) := by
  cases h : decTakes false c s <;> simp [offerChar, h]

theorem offerEos_cases (s : State) :
    (decTakes true 0#8 s = true ∧ offerEos s = takeEos s) ∨ (decTakes true 0#8 s = false ∧ offerEos s = s) := by
  cases h : decTakes true 0#8 s <;> simp [offerEos, h]

/-- `ENC.EMIT` is enabled when ENC is busy, out of reset, and the host takes a character. -/
theorem emitEnabled_iff (s : State) :
    emitEnabled s = true ↔ s.encBusy = true ∧ s.pins.rst = false ∧ s.pins.encOutReady = true := by
  cases h1 : s.encBusy <;> cases h2 : s.pins.rst <;> cases h3 : s.pins.encOutReady <;>
    simp [emitEnabled, encOutValid, h1, h2, h3]

/-- ENC takes an integer when it is idle and out of reset. -/
theorem encInReady_iff (s : State) : encInReady s = true ↔ s.encBusy = false ∧ s.pins.rst = false := by
  cases h1 : s.encBusy <;> cases h2 : s.pins.rst <;> simp [encInReady, h1, h2]

/-- `DEC.EOS` always emits, so it is taken exactly when the host takes the verdict. -/
theorem decTakes_eos (c : CharCode) (s : State) :
    decTakes true c s = (!s.pins.rst && s.pins.decOutReady) := by
  simp [decTakes, emission]

/-! Emitting several characters. -/

@[simp] theorem emitUpTo_zero (s : State) : emitUpTo 0 s = s := rfl

theorem emitUpTo_disabled (k : Nat) (s : State) (h : emitEnabled s = false) : emitUpTo k s = s := by
  cases k <;> simp [emitUpTo, h]

theorem emitUpTo_enabled (k : Nat) (s : State) (h : emitEnabled s = true) : emitUpTo (k + 1) s = emitUpTo k (emitDigit s) := by
  simp [emitUpTo, h]

/-- Emitting characters touches nothing of DEC and nothing of the host. -/
theorem emitUpTo_frame (k : Nat) (s : State) :
    (emitUpTo k s).decValue = s.decValue ∧ (emitUpTo k s).decShift = s.decShift ∧ (emitUpTo k s).decFail = s.decFail ∧
      (emitUpTo k s).decRes = s.decRes ∧ (emitUpTo k s).decOut = s.decOut ∧ (emitUpTo k s).pins = s.pins ∧
      (emitUpTo k s).script = s.script := by
  induction k generalizing s with
  | zero => simp
  | succ k ih =>
    cases h : emitEnabled s
    · rw [emitUpTo_disabled _ _ h]; simp
    · rw [emitUpTo_enabled _ _ h]; simpa using ih (emitDigit s)

/-! Strings. -/

/-- A string touches nothing of ENC and nothing of the host. -/
theorem offerString_frame (cs : List CharCode) (s : State) :
    (offerString cs s).encU = s.encU ∧ (offerString cs s).encBusy = s.encBusy ∧
      (offerString cs s).encTrace = s.encTrace ∧ (offerString cs s).pins = s.pins ∧
      (offerString cs s).script = s.script := by
  induction cs generalizing s with
  | nil => obtain ⟨-, h⟩ | ⟨-, h⟩ := offerEos_cases s <;> simp [offerString, h]
  | cons c rest ih =>
    by_cases h : decTakes false c s = true
    · simp only [offerString, h, if_true]
      obtain ⟨h1, h2, h3, h4, h5⟩ := ih (takeChar c s)
      obtain ⟨f1, f2, f3, f4, f5⟩ := takeChar_frame c s
      exact ⟨h1.trans f1, h2.trans f2, h3.trans f3, h4.trans f4, h5.trans f5⟩
    · simp [offerString, h]

end Sys2Proof.Laws
end

