-- ==== Sys2Proof/Laws/PerInstr.lean ====
section
/-! SUPPORT. The family `TokensDecodeBack`, one lemma per constructor of `Instr`: the tokens of an instruction decode to the
operations they stand for (30_encoding.md R49 to R54, R64). -/

namespace Sys2Proof.Laws.TokensDecodeBack

open Sys2Proof Sys2Proof.Laws

/-- The tokens of a well-formed instruction decode, in order, to the operations of its expansion. -/
def Statement (i : Instr) : Prop :=
  i.wellFormed = true → (encodeInstr i).map decodeToken = i.expansion.map Except.ok

theorem encWord (n : Word) : Statement (.encWord n) := fun _ => rfl

theorem encAccept (n : Word) : Statement (.encAccept n) := fun _ => rfl

theorem encEmit : Statement .encEmit := fun _ => rfl

theorem decChar (c : CharCode) : Statement (.decChar c) := fun _ => by
  simp [encodeInstr, Instr.expansion, decodeToken]

theorem decEos (c : CharCode) : Statement (.decEos c) := fun _ => by
  simp [encodeInstr, Instr.expansion, decodeToken]

theorem decCharUpperA : Statement .decCharUpperA := fun _ => by decide

theorem decCharUpperB : Statement .decCharUpperB := fun _ => by decide

theorem decCharUpperC : Statement .decCharUpperC := fun _ => by decide

theorem decCharUpperD : Statement .decCharUpperD := fun _ => by decide

theorem decCharUpperE : Statement .decCharUpperE := fun _ => by decide

theorem decCharUpperF : Statement .decCharUpperF := fun _ => by decide

theorem decCharUpperG : Statement .decCharUpperG := fun _ => by decide

theorem decCharUpperH : Statement .decCharUpperH := fun _ => by decide

theorem decCharUpperI : Statement .decCharUpperI := fun _ => by decide

theorem decCharUpperJ : Statement .decCharUpperJ := fun _ => by decide

theorem decCharUpperK : Statement .decCharUpperK := fun _ => by decide

theorem decCharUpperL : Statement .decCharUpperL := fun _ => by decide

theorem decCharUpperM : Statement .decCharUpperM := fun _ => by decide

theorem decCharUpperN : Statement .decCharUpperN := fun _ => by decide

theorem decCharUpperO : Statement .decCharUpperO := fun _ => by decide

theorem decCharUpperP : Statement .decCharUpperP := fun _ => by decide

theorem decCharUpperQ : Statement .decCharUpperQ := fun _ => by decide

theorem decCharUpperR : Statement .decCharUpperR := fun _ => by decide

theorem decCharUpperS : Statement .decCharUpperS := fun _ => by decide

theorem decCharUpperT : Statement .decCharUpperT := fun _ => by decide

theorem decCharUpperU : Statement .decCharUpperU := fun _ => by decide

theorem decCharUpperV : Statement .decCharUpperV := fun _ => by decide

theorem decCharUpperW : Statement .decCharUpperW := fun _ => by decide

theorem decCharUpperX : Statement .decCharUpperX := fun _ => by decide

theorem decCharUpperY : Statement .decCharUpperY := fun _ => by decide

theorem decCharUpperZ : Statement .decCharUpperZ := fun _ => by decide

theorem decCharLowerA : Statement .decCharLowerA := fun _ => by decide

theorem decCharLowerB : Statement .decCharLowerB := fun _ => by decide

theorem decCharLowerC : Statement .decCharLowerC := fun _ => by decide

theorem decCharLowerD : Statement .decCharLowerD := fun _ => by decide

theorem decCharLowerE : Statement .decCharLowerE := fun _ => by decide

theorem decCharLowerF : Statement .decCharLowerF := fun _ => by decide

theorem decCharLowerG : Statement .decCharLowerG := fun _ => by decide

theorem decCharLowerH : Statement .decCharLowerH := fun _ => by decide

theorem decCharLowerI : Statement .decCharLowerI := fun _ => by decide

theorem decCharLowerJ : Statement .decCharLowerJ := fun _ => by decide

theorem decCharLowerK : Statement .decCharLowerK := fun _ => by decide

theorem decCharLowerL : Statement .decCharLowerL := fun _ => by decide

theorem decCharLowerM : Statement .decCharLowerM := fun _ => by decide

theorem decCharLowerN : Statement .decCharLowerN := fun _ => by decide

theorem decCharLowerO : Statement .decCharLowerO := fun _ => by decide

theorem decCharLowerP : Statement .decCharLowerP := fun _ => by decide

theorem decCharLowerQ : Statement .decCharLowerQ := fun _ => by decide

theorem decCharLowerR : Statement .decCharLowerR := fun _ => by decide

theorem decCharLowerS : Statement .decCharLowerS := fun _ => by decide

theorem decCharLowerT : Statement .decCharLowerT := fun _ => by decide

theorem decCharLowerU : Statement .decCharLowerU := fun _ => by decide

theorem decCharLowerV : Statement .decCharLowerV := fun _ => by decide

theorem decCharLowerW : Statement .decCharLowerW := fun _ => by decide

theorem decCharLowerX : Statement .decCharLowerX := fun _ => by decide

theorem decCharLowerY : Statement .decCharLowerY := fun _ => by decide

theorem decCharLowerZ : Statement .decCharLowerZ := fun _ => by decide

theorem decCharDigit0 : Statement .decCharDigit0 := fun _ => by decide

theorem decCharDigit1 : Statement .decCharDigit1 := fun _ => by decide

theorem decCharDigit2 : Statement .decCharDigit2 := fun _ => by decide

theorem decCharDigit3 : Statement .decCharDigit3 := fun _ => by decide

theorem decCharDigit4 : Statement .decCharDigit4 := fun _ => by decide

theorem decCharDigit5 : Statement .decCharDigit5 := fun _ => by decide

theorem decCharDigit6 : Statement .decCharDigit6 := fun _ => by decide

theorem decCharDigit7 : Statement .decCharDigit7 := fun _ => by decide

theorem decCharDigit8 : Statement .decCharDigit8 := fun _ => by decide

theorem decCharDigit9 : Statement .decCharDigit9 := fun _ => by decide

theorem decCharPlus : Statement .decCharPlus := fun _ => by decide

theorem decCharSlash : Statement .decCharSlash := fun _ => by decide

theorem decCharEquals : Statement .decCharEquals := fun _ => by decide

theorem decCharOutside (c : CharCode) : Statement (.decCharOutside c) := fun h => by
  have hc : (Machine.inv c).valid = false := by simpa [Instr.wellFormed] using h
  simp [encodeInstr, Instr.expansion, decodeToken, decodeChar_outside c hc]

theorem charToken (last : Bool) (c : CharCode) : Statement (.charToken last c) := fun h => by
  have hl : Machine.encOutLegal ⟨last, c⟩ = true := h
  simp [encodeInstr, Instr.expansion, decodeToken, decodeEncOut_bits _ hl]

theorem wordToken (d : Word) : Statement (.wordToken d) := fun _ => by
  simp [encodeInstr, Instr.expansion, decodeToken, decodeDecOut_word]

theorem doneToken (ok : Bool) : Statement (.doneToken ok) := fun _ => by
  simp [encodeInstr, Instr.expansion, decodeToken, decodeDecOut_done]

theorem encode (ns : List Word) : Statement (.encode ns) := fun _ => by
  simp [encodeInstr, Instr.expansion, decodeToken, Function.comp_def]

theorem encode1 (n : Word) : Statement (.encode1 n) := fun _ => rfl

theorem decode (cs : List CharCode) : Statement (.decode cs) := fun _ => by
  simp [encodeInstr, Instr.expansion, decodeToken, Function.comp_def]

end Sys2Proof.Laws.TokensDecodeBack
end

