-- ==== Sys2Proof/Laws/Step.lean ====
section
/-! SUPPORT. What one clock edge and one move of the host's script can do, in the words of Machine/Ops.lean. -/

namespace Sys2Proof.Laws

open Sys2Proof Sys2Proof.Machine

/-- Each row of the table of operand forms means `DEC.CHAR` of its code. -/
theorem exec_charForms (s : State) : ∀ p ∈ charForms, exec p.2 s = .next (offerChar p.1 s) := by
  simp only [charForms, charForms1, charForms2, charForms3, charForms4, charForms5, List.cons_append, List.nil_append,
    List.forall_mem_cons, List.not_mem_nil, false_imp_iff, implies_true, and_true]
  repeat' apply And.intro
  all_goals rfl

/-- What the decoder answers for a character means `DEC.CHAR` of that character. -/
theorem exec_decodeChar (c : CharCode) (s : State) : exec (decodeChar c) s = .next (offerChar c s) := by
  cases h : charForms.lookup c with
  | none => simp only [decodeChar, h, Option.getD_none]; rfl
  | some i =>
    obtain ⟨l₁, l₂, hl, -⟩ := List.lookup_eq_some_iff.mp h
    simpa [decodeChar, h] using exec_charForms s (c, i) (by simp [hl])

/-- DEC's step on an offered token. -/
def offerDecIn (eos : Bool) (c : CharCode) (s : State) : State := if eos then offerEos s else offerChar c s

theorem exec_decodeDecIn (eos : Bool) (c : CharCode) (s : State) :
    exec (decodeDecIn (decInBits eos c)) s = .next (offerDecIn eos c s) := by
  cases eos
  · simp [offerDecIn, exec_decodeChar]
  · simp only [decodeDecIn_eos, offerDecIn, if_true]; rfl

/-- ENC's step at an edge, as a state. -/
def encStep (s : State) : State :=
  if s.encBusy then tryEmit s else if s.pins.encInValid then offerWord s.pins.encInData s else s

/-- DEC's step at an edge, as a state. -/
def decStep (s : State) : State := if s.pins.decInValid then offerDecIn s.pins.decInEos s.pins.decInChar s else s

theorem encSide_eq (s : State) : encSide s = .next (encStep s) := by
  unfold encSide encStep
  split
  · rfl
  · split <;> rfl

theorem decSide_eq (s : State) : decSide s = .next (decStep s) := by
  unfold decSide decStep
  split
  · exact exec_decodeDecIn _ _ s
  · rfl

/-- An edge always gives a next state, this one. -/
theorem edge_eq (p : Pins) (s : State) :
    edge p s = .next (if p.rst then resetBlock (s.drive p) else decStep (encStep (s.drive p))) := by
  unfold edge
  split
  · rfl
  · simp only [encSide_eq, andThen, decSide_eq]

theorem afterEdge_eq (p : Pins) (s : State) :
    afterEdge p s = if p.rst then resetBlock (s.drive p) else decStep (encStep (s.drive p)) := by
  simp [afterEdge, edge_eq]

theorem step_period (s : State) (p : Pins) (rest : List HostMove) (h : s.script = .period p :: rest) :
    step s = edge p { s with script := rest } := by
  simp [step, h]

theorem step_token (s : State) (t : Token) (rest : List HostMove) (h : s.script = .token t :: rest) :
    step s = serve t { s with script := rest } := by
  simp [step, h]

theorem step_idle (s : State) (h : s.script = []) : step s = edge Pins.idle s := by
  simp [step, h]

/-- Everything a step can do: an edge's next state, or the meaning of an offered token, or a refusal of bits that are no token. -/
theorem step_cases (s : State) :
    (∃ p rest, step s = edge p { s with script := rest }) ∨
    (∃ t rest i, decodeToken t = .ok i ∧ s.script = .token t :: rest ∧
      step s = exec i ({ s with script := rest }.drive (servingPins t s.pins))) ∨
    (∃ t rest e, decodeToken t = .error e ∧ s.script = .token t :: rest ∧ step s = .refused .noSuchToken) := by
  cases hs : s.script with
  | nil => exact .inl ⟨Pins.idle, [], by rw [step_idle s hs, ← hs]⟩
  | cons m rest =>
    cases m with
    | period p => exact .inl ⟨p, rest, step_period s p rest hs⟩
    | token t =>
      cases hd : decodeToken t with
      | ok i => exact .inr (.inl ⟨t, rest, i, hd, rfl, by simp [step_token s t rest hs, serve, runDecoded, hd]⟩)
      | error e => exact .inr (.inr ⟨t, rest, e, hd, rfl, by simp [step_token s t rest hs, serve, runDecoded, hd]⟩)

end Sys2Proof.Laws
end

