-- ==== Sys2Proof/Tests/Slice0.lean ====
section
/-! SUPPORT. The model's own tests. Expected values are the spec's: its opcode table, its fixtures and vectors (95_test_vectors.md,
96_derived_vectors.md), and, for each statement with hypotheses, a state and operands that meet them. -/

namespace Sys2Proof.Tests

open Sys2Proof Sys2Proof.Machine

/-- The next state of an outcome, if it is one. -/
def nextOf (o : Host.Outcome State Fault Refusal) : Option State :=
  match o with
  | .next s => some s
  | .fault _ => none
  | .refused _ => none

/-- The reset state with a host that takes every output token. -/
def ready : State := { State.reset with pins := { Pins.idle with encOutReady := true, decOutReady := true } }

/-- ENC in the middle of its work, `ready` otherwise. -/
def emitting (u : Word) : State := { ready with encU := u, encBusy := true }

/-- DEC in the middle of a string, `ready` otherwise. -/
def reading (value : Word) (shift : BitVec 6) (fail : Bool) : State :=
  { ready with decValue := value, decShift := shift, decFail := fail }

/-! ## Decoding: the words of the opcode table -/

/-- Rows of spec/opcode_table.json: the 9 bits of the row and its instruction. -/
def formWords1 : List (BitVec 9 × Instr) := [
  (0b001000001#9, .decCharUpperA), (0b001000010#9, .decCharUpperB), (0b001000011#9, .decCharUpperC),
  (0b001000100#9, .decCharUpperD), (0b001000101#9, .decCharUpperE), (0b001000110#9, .decCharUpperF),
  (0b001000111#9, .decCharUpperG), (0b001001000#9, .decCharUpperH), (0b001001001#9, .decCharUpperI),
  (0b001001010#9, .decCharUpperJ), (0b001001011#9, .decCharUpperK), (0b001001100#9, .decCharUpperL),
  (0b001001101#9, .decCharUpperM)]

/-- Rows of spec/opcode_table.json: the 9 bits of the row and its instruction. -/
def formWords2 : List (BitVec 9 × Instr) := [
  (0b001001110#9, .decCharUpperN), (0b001001111#9, .decCharUpperO), (0b001010000#9, .decCharUpperP),
  (0b001010001#9, .decCharUpperQ), (0b001010010#9, .decCharUpperR), (0b001010011#9, .decCharUpperS),
  (0b001010100#9, .decCharUpperT), (0b001010101#9, .decCharUpperU), (0b001010110#9, .decCharUpperV),
  (0b001010111#9, .decCharUpperW), (0b001011000#9, .decCharUpperX), (0b001011001#9, .decCharUpperY),
  (0b001011010#9, .decCharUpperZ)]

/-- Rows of spec/opcode_table.json: the 9 bits of the row and its instruction. -/
def formWords3 : List (BitVec 9 × Instr) := [
  (0b001100001#9, .decCharLowerA), (0b001100010#9, .decCharLowerB), (0b001100011#9, .decCharLowerC),
  (0b001100100#9, .decCharLowerD), (0b001100101#9, .decCharLowerE), (0b001100110#9, .decCharLowerF),
  (0b001100111#9, .decCharLowerG), (0b001101000#9, .decCharLowerH), (0b001101001#9, .decCharLowerI),
  (0b001101010#9, .decCharLowerJ), (0b001101011#9, .decCharLowerK), (0b001101100#9, .decCharLowerL),
  (0b001101101#9, .decCharLowerM)]

/-- Rows of spec/opcode_table.json: the 9 bits of the row and its instruction. -/
def formWords4 : List (BitVec 9 × Instr) := [
  (0b001101110#9, .decCharLowerN), (0b001101111#9, .decCharLowerO), (0b001110000#9, .decCharLowerP),
  (0b001110001#9, .decCharLowerQ), (0b001110010#9, .decCharLowerR), (0b001110011#9, .decCharLowerS),
  (0b001110100#9, .decCharLowerT), (0b001110101#9, .decCharLowerU), (0b001110110#9, .decCharLowerV),
  (0b001110111#9, .decCharLowerW), (0b001111000#9, .decCharLowerX), (0b001111001#9, .decCharLowerY),
  (0b001111010#9, .decCharLowerZ)]

/-- Rows of spec/opcode_table.json: the 9 bits of the row and its instruction. -/
def formWords5 : List (BitVec 9 × Instr) := [
  (0b000110000#9, .decCharDigit0), (0b000110001#9, .decCharDigit1), (0b000110010#9, .decCharDigit2),
  (0b000110011#9, .decCharDigit3), (0b000110100#9, .decCharDigit4), (0b000110101#9, .decCharDigit5),
  (0b000110110#9, .decCharDigit6), (0b000110111#9, .decCharDigit7), (0b000111000#9, .decCharDigit8),
  (0b000111001#9, .decCharDigit9), (0b000101011#9, .decCharPlus), (0b000101111#9, .decCharSlash),
  (0b000111101#9, .decCharEquals)]

theorem test_decode_formWords1 : ∀ p ∈ formWords1, decodeToken (.decIn p.1) = .ok p.2 := by decide

theorem test_decode_formWords2 : ∀ p ∈ formWords2, decodeToken (.decIn p.1) = .ok p.2 := by decide

theorem test_decode_formWords3 : ∀ p ∈ formWords3, decodeToken (.decIn p.1) = .ok p.2 := by decide

theorem test_decode_formWords4 : ∀ p ∈ formWords4, decodeToken (.decIn p.1) = .ok p.2 := by decide

theorem test_decode_formWords5 : ∀ p ∈ formWords5, decodeToken (.decIn p.1) = .ok p.2 := by decide

/-- 30_encoding.md R49, R63: the 32-bit token of `ENC.WORD 123`. -/
theorem test_decode_encWord : decodeToken (.encIn 0b00000000000000000000000001111011#32) = .ok (.encWord 123#32) := by decide

/-- 30_encoding.md R51: a code outside the alphabet (0x2D, the hyphen), and the end mark with any `char` field. -/
theorem test_decode_decIn :
    decodeToken (.decIn 0b000101101#9) = .ok (.decChar 0x2D#8) ∧
    decodeToken (.decIn 0b100000000#9) = .ok (.decEos 0x00#8) ∧
    decodeToken (.decIn 0b101000001#9) = .ok (.decEos 0x41#8) := by decide

/-- 95_test_vectors.md F4: the `ENC_OUT` tokens 0x032 and 0x148; `=`, and a digit with the wrong `last`, are no tokens (R50, R70). -/
theorem test_decode_encOut :
    decodeToken (.encOut 0b000110010#9) = .ok (.charToken false 0x32#8) ∧
    decodeToken (.encOut 0b101001000#9) = .ok (.charToken true 0x48#8) ∧
    decodeToken (.encOut 0b100111101#9) = .error .noDigitOfEnc ∧
    decodeToken (.encOut 0b100110010#9) = .error .noDigitOfEnc := by decide

/-- 95_test_vectors.md F3 and X2: the `DEC_OUT` tokens 0x0FFFFFFFF and 0x100000000; bits 31:1 of a verdict are 0 (R52). -/
theorem test_decode_decOut :
    decodeToken (.decOut 0b011111111111111111111111111111111#33) = .ok (.wordToken 0xFFFFFFFF#32) ∧
    decodeToken (.decOut 0b100000000000000000000000000000000#33) = .ok (.doneToken false) ∧
    decodeToken (.decOut 0b100000000000000000000000000000001#33) = .ok (.doneToken true) ∧
    decodeToken (.decOut 0b100000000000000000000000000000011#33) = .error .verdictBitsSet := by decide

/-- The tokens of the rows that the decoder does not answer: an internal step, a generic operand, the pseudo-operations (R64). -/
theorem test_encode_others :
    encodeInstr (.encAccept 1#32) = [.encIn 1#32] ∧ encodeInstr .encEmit = [] ∧
    encodeInstr (.decChar 0x41#8) = [.decIn 0x041#9] ∧ encodeInstr (.decCharOutside 0x20#8) = [.decIn 0x020#9] ∧
    encodeInstr (.encode [8#32, 0#32]) = [.encIn 8#32, .encIn 0#32] ∧ encodeInstr (.encode1 8#32) = [.encIn 8#32] ∧
    encodeInstr (.decode [0x32#8, 0x48#8]) = [.decIn 0x032#9, .decIn 0x048#9, .decIn 0x100#9] := by decide

theorem test_decodeTableWord :
    decodeTableWord 32 0x7B = some (.encWord 123#32) ∧ decodeTableWord 16 0x041 = some .decCharUpperA ∧
    decodeTableWord 16 0x100 = some (.decEos 0#8) ∧ decodeTableWord 16 0 = some (.decChar 0#8) ∧
    decodeTableWord 40 0x100000001 = some (.doneToken true) ∧ decodeTableWord 0 0 = none ∧
    decodeTableWord 16 0x200 = none := by decide

/-! ## WellFormed: an ill-formed term for each check -/

/-- `A` is in the alphabet (R60). -/
theorem test_illFormed_outside : (Instr.decCharOutside 0x41#8).wellFormed = false := by decide

/-- `=` is no digit's character; `g` is a continuation digit's, so `last` is 0; a blank is no character of the alphabet (R50, R70). -/
theorem test_illFormed_charToken :
    (Instr.charToken true 0x3D#8).wellFormed = false ∧ (Instr.charToken true 0x67#8).wellFormed = false ∧
    (Instr.charToken false 0x20#8).wellFormed = false := by decide

theorem test_wellFormed : (Instr.decCharOutside 0x20#8).wellFormed = true ∧ (Instr.charToken true 0x48#8).wellFormed = true := by decide

/-! ## The ROMs and the arithmetic -/

/-- 20_memory.md R30: the table, in its order. -/
theorem test_alpha_table : (List.finRange 65).map (fun i => (alpha i).toNat) =
    [0x41, 0x42, 0x43, 0x44, 0x45, 0x46, 0x47, 0x48, 0x49, 0x4A, 0x4B, 0x4C, 0x4D, 0x4E, 0x4F, 0x50, 0x51, 0x52, 0x53, 0x54,
     0x55, 0x56, 0x57, 0x58, 0x59, 0x5A] ++
    [0x61, 0x62, 0x63, 0x64, 0x65, 0x66, 0x67, 0x68, 0x69, 0x6A, 0x6B, 0x6C, 0x6D, 0x6E, 0x6F, 0x70, 0x71, 0x72, 0x73, 0x74,
     0x75, 0x76, 0x77, 0x78, 0x79, 0x7A] ++
    [0x30, 0x31, 0x32, 0x33, 0x34, 0x35, 0x36, 0x37, 0x38, 0x39, 0x2B, 0x2F, 0x3D] := by decide

/-- 96_derived_vectors.md 2.4, the boundaries of the table. -/
theorem test_inv_boundaries :
    inv 0x2A#8 = ⟨false, 0#7⟩ ∧ inv 0x2B#8 = ⟨true, 62#7⟩ ∧ inv 0x2C#8 = ⟨false, 0#7⟩ ∧ inv 0x2E#8 = ⟨false, 0#7⟩ ∧
    inv 0x2F#8 = ⟨true, 63#7⟩ ∧ inv 0x30#8 = ⟨true, 52#7⟩ ∧ inv 0x39#8 = ⟨true, 61#7⟩ ∧ inv 0x3A#8 = ⟨false, 0#7⟩ ∧
    inv 0x3D#8 = ⟨true, 64#7⟩ ∧ inv 0x40#8 = ⟨false, 0#7⟩ ∧ inv 0x41#8 = ⟨true, 0#7⟩ ∧ inv 0x5A#8 = ⟨true, 25#7⟩ ∧
    inv 0x5B#8 = ⟨false, 0#7⟩ ∧ inv 0x60#8 = ⟨false, 0#7⟩ ∧ inv 0x61#8 = ⟨true, 26#7⟩ ∧ inv 0x7A#8 = ⟨true, 51#7⟩ ∧
    inv 0x7B#8 = ⟨false, 0#7⟩ ∧ inv 0x80#8 = ⟨false, 0#7⟩ ∧ inv 0xFF#8 = ⟨false, 0#7⟩ := by decide

/-- 96_derived_vectors.md 2.1. -/
theorem test_zz :
    zz 0#32 = 0#32 ∧ zz (-1#32) = 3#32 ∧ zz (-2#32) = 5#32 ∧ zz 123#32 = 0xF6#32 ∧ zz 0x7FFFFFFF#32 = 0xFFFFFFFE#32 ∧
    zz 0x80000001#32 = 0xFFFFFFFF#32 ∧ zz 0x80000000#32 = 1#32 := by decide

/-- 96_derived_vectors.md 2.1. -/
theorem test_zzInv :
    zzInv 0#32 = 0#32 ∧ zzInv 1#32 = 0x80000000#32 ∧ zzInv 3#32 = 0xFFFFFFFF#32 ∧ zzInv 0x7FFFFFFF#32 = 0xC0000001#32 ∧
    zzInv 0xFFFFFFFE#32 = 0x7FFFFFFF#32 ∧ zzInv 0xFFFFFFFF#32 = 0x80000001#32 := by decide

/-- 95_test_vectors.md F4, F5, F8, F9. -/
theorem test_encodeGroup :
    encodeGroup 123#32 = [0x32#8, 0x48#8] ∧ encodeGroup 123456789#32 = [0x71#8, 0x78#8, 0x6D#8, 0x76#8, 0x72#8, 0x48#8] ∧
    encodeGroup 0x80000000#32 = [0x42#8] ∧
    encodeGroup 0x7FFFFFFF#32 = [0x2B#8, 0x2F#8, 0x2F#8, 0x2F#8, 0x2F#8, 0x2F#8, 0x44#8] := by decide

/-- 96_derived_vectors.md 2.7: `hA`, `2=`, `ggggggH` (overlong), `Ag`, `A-`. -/
theorem test_decodeStr :
    decodeStr [0x68#8, 0x41#8] = some [0x80000000#32] ∧ decodeStr [0x32#8, 0x3D#8] = some [11#32] ∧
    decodeStr [0x67#8, 0x67#8, 0x67#8, 0x67#8, 0x67#8, 0x67#8, 0x48#8] = some [1610612736#32] ∧
    decodeStr [0x41#8, 0x67#8] = none ∧ decodeStr [0x41#8, 0x2D#8] = none := by decide

/-! ## One step of each instruction -/

/-- 95_test_vectors.md F4: the whole of `ENC.WORD 123`. -/
theorem test_encWord : nextOf (exec (.encWord 123#32) ready) =
    some { ready with encTrace := [⟨false, 0x32#8⟩, ⟨true, 0x48#8⟩] } := by decide

/-- 95_test_vectors.md P4: `MININT`. -/
theorem test_encWord_minInt : nextOf (exec (.encWord 0x80000000#32) ready) = some { ready with encTrace := [⟨true, 0x42#8⟩] } := by
  decide

/-- 96_derived_vectors.md 2.3. -/
theorem test_encAccept : nextOf (exec (.encAccept 0xFFFFFFFF#32) ready) = some (emitting 3#32) := by decide

/-- 96_derived_vectors.md 2.3: a busy ENC does not take the token. -/
theorem test_encAccept_busy : nextOf (exec (.encAccept 5#32) (emitting 7#32)) = some (emitting 7#32) := by decide

/-- 96_derived_vectors.md 2.3: the unsigned shift. -/
theorem test_encEmit : nextOf (exec .encEmit (emitting 0xFFFFFFFE#32)) =
    some { emitting 0x07FFFFFF#32 with encTrace := [⟨false, 0x2B#8⟩] } := by decide

/-- 96_derived_vectors.md 2.3: the last digit. -/
theorem test_encEmit_last : nextOf (exec .encEmit (emitting 7#32)) = some { ready with encTrace := [⟨true, 0x48#8⟩] } := by decide

/-- 96_derived_vectors.md 2.5: `f` at shift 30 keeps two bits of its payload. -/
theorem test_decChar : nextOf (exec (.decChar 0x66#8) (reading 0#32 30#6 false)) =
    some { ready with decRes := [0x60000000#32], decOut := [.word 0x60000000#32] } := by decide

/-- 96_derived_vectors.md 2.5: a continuation digit at shift 35 changes nothing. -/
theorem test_decChar_saturated : nextOf (exec (.decChar 0x2F#8) (reading 5#32 35#6 false)) = some (reading 5#32 35#6 false) := by
  decide

/-- 96_derived_vectors.md 2.6, with `DEC.RES` = [7] and the `char` field 0x41. -/
theorem test_decEos : nextOf (exec (.decEos 0x41#8) { reading 22#32 5#6 false with decRes := [7#32] }) =
    some { ready with decOut := [.done false] } := by decide

/-- 96_derived_vectors.md 2.6, first row. -/
theorem test_decEos_empty : nextOf (exec (.decEos 0#8) ready) = some { ready with decOut := [.done true] } := by decide

/-- 96_derived_vectors.md 2.5: `BadChar` inside a group. -/
theorem test_decCharOutside : nextOf (exec (.decCharOutside 0x21#8) (reading 22#32 5#6 false)) = some (reading 22#32 5#6 true) := by
  decide

/-- spec/opcode_table.json: payload and class of the rows of continuation digits. -/
theorem test_continuationForms : ∀ p ∈ continuationForms,
    nextOf (exec p.1 ready) = some (reading (BitVec.ofNat 32 p.2) 5#6 false) := by decide

/-- spec/opcode_table.json: the rows of terminating digits; inside a group at shift 5 the word is `22 + P * 32`, even, so `WORD 11 + 16 P`. -/
theorem test_terminatingForms : ∀ p ∈ terminatingForms,
    nextOf (exec p.1 (reading 22#32 5#6 false)) =
      some { ready with decRes := [BitVec.ofNat 32 (11 + 16 * p.2)], decOut := [.word (BitVec.ofNat 32 (11 + 16 * p.2))] } := by
  decide

/-- 96_derived_vectors.md 2.5: `=` ends a group with payload 0. -/
theorem test_decCharEquals : nextOf (exec .decCharEquals (reading 22#32 5#6 false)) =
    some { ready with decRes := [11#32], decOut := [.word 11#32] } := by decide

/-- 95_test_vectors.md P1 step 2: the token `CHAR '2'` crosses `ENC_OUT`; `CHAR 'H' last` does not cross then. -/
theorem test_charToken :
    nextOf (exec (.charToken false 0x32#8) (emitting 0xF6#32)) = some { emitting 7#32 with encTrace := [⟨false, 0x32#8⟩] } ∧
    nextOf (exec (.charToken true 0x48#8) (emitting 0xF6#32)) = some (emitting 0xF6#32) := by decide

/-- The wires of a host that offers this `DEC_IN` token and takes outputs. -/
def offering (eos : Bool) (c : CharCode) (s : State) : State :=
  { s with pins := { Pins.idle with decInValid := true, decInEos := eos, decInChar := c, decOutReady := true } }

/-- 95_test_vectors.md P2 step 2: `WORD 123` crosses while `H` is offered; `WORD 124` does not. -/
theorem test_wordToken :
    nextOf (exec (.wordToken 123#32) (offering false 0x48#8 (reading 22#32 5#6 false))) =
      some { offering false 0x48#8 ready with decRes := [123#32], decOut := [.word 123#32] } ∧
    nextOf (exec (.wordToken 124#32) (offering false 0x48#8 (reading 22#32 5#6 false))) =
      some (offering false 0x48#8 (reading 22#32 5#6 false)) := by decide

/-- 95_test_vectors.md P3 step 2: `DONE fail` crosses while `DEC.EOS` is offered inside a group. -/
theorem test_doneToken :
    nextOf (exec (.doneToken false) (offering true 0#8 (reading 0#32 5#6 false))) =
      some { offering true 0#8 ready with decOut := [.done false] } := by decide

/-- 95_test_vectors.md F7, the first two integers. -/
theorem test_encode : nextOf (exec (.encode [8#32, 16#32]) ready) =
    some { ready with encTrace := [⟨true, 0x51#8⟩, ⟨false, 0x67#8⟩, ⟨true, 0x42#8⟩] } := by decide

theorem test_encode1 : nextOf (exec (.encode1 0#32) ready) = some { ready with encTrace := [⟨true, 0x41#8⟩] } := by decide

/-- 95_test_vectors.md P2, the first string of fixture F4. -/
theorem test_decode : nextOf (exec (.decode [0x32#8, 0x48#8]) ready) = some { ready with decOut := [.word 123#32, .done true] } := by
  decide

/-- 95_test_vectors.md X3: the empty string. -/
theorem test_decode_empty : nextOf (exec (.decode []) ready) = some { ready with decOut := [.done true] } := by decide

/-! ## Edges, steps and ports: 95_test_vectors.md P6 -/

/-- Period 1 of both tables: ENC takes 123 and DEC takes `2` at one edge; DEC needs no sink for it. -/
theorem test_edge_both :
    let p : Pins := ⟨false, true, 123#32, true, true, false, 0x32#8, false⟩
    nextOf (edge p State.reset) =
      some { State.reset with encU := 0xF6#32, encBusy := true, decValue := 22#32, decShift := 5#6, pins := p } := by decide

/-- Period 2: the sinks are not ready; ENC offers `2`, DEC offers `WORD 123`, and neither moves. -/
theorem test_edge_stalled :
    let p : Pins := ⟨false, false, 0#32, false, true, false, 0x48#8, false⟩
    let s : State := { emitting 0xF6#32 with decValue := 22#32, decShift := 5#6, pins := p }
    nextOf (edge s.pins s) = some s ∧ encOutValid s = true ∧ encOutChar s = 0x32#8 ∧ encOutLast s = false ∧
      encInReady s = false ∧ decInReady s = some false ∧ decOutOffered s = some (.word 123#32) := by decide

/-- Period 5: reset while both agents are at work; `H` stands on the wires and is not valid. -/
theorem test_edge_reset :
    let p : Pins := { Pins.idle with rst := true, encOutReady := true, decInValid := true, decInEos := true, decOutReady := true }
    let s : State := { emitting 7#32 with decShift := 5#6, pins := p }
    nextOf (edge p s) = some { State.reset with pins := p } ∧ encOutChar s = 0x48#8 ∧ encOutLast s = true ∧
      encOutValid s = false ∧ decInReady s = some false ∧ decOutValid s = false := by decide

/-- A token at the head of the script is the next instruction a step runs. -/
theorem test_step_fetches :
    (nextOf (step (State.reset.withFetchWord 32 0x7B))).map (fun s => (s.encTrace, s.script)) =
      some ([⟨false, 0x32#8⟩, ⟨true, 0x48#8⟩], []) ∧
    (nextOf (step (State.reset.withFetchWord 16 0x041))).map (fun s => s.decOut) = some [.word 0#32] ∧
    (nextOf (step (State.reset.withFetchWord 16 0x100))).map (fun s => s.decOut) = some [.done true] := by decide

/-! ## States and operands that meet the hypotheses of the statements -/

theorem witness_DecodeUndoesEncode :
    (Instr.decChar 0x20#8).wellFormed = true ∧ (Instr.decChar 0x20#8).hasOwnToken = true ∧
    Instr.decCharSlash.wellFormed = true ∧ Instr.decCharSlash.hasOwnToken = true := by decide

theorem witness_EncodeUndoesDecode : decodeToken (.decIn 0x048#9) = .ok .decCharUpperH := by decide

theorem witness_RomsAreInverse : (inv 0x3D#8).valid = true := by decide

/-- The group `2H`. -/
theorem witness_GroupDecodesToItsSum : isGroup [0x32#8, 0x48#8] = true := by decide

/-- The group `ggggggggB` of nine digits, and the group `ggggggH` of seven. -/
theorem witness_OverlongGroupsKeepLowBits :
    (isGroup (List.replicate 8 0x67#8 ++ [0x42#8]) = true ∧
      payloads (List.replicate 8 0x67#8 ++ [0x42#8]) = 0#5 :: 0#5 :: 0#5 :: 0#5 :: 0#5 :: 0#5 :: 0#5 :: [0#5, 1#5]) ∧
    (isGroup (List.replicate 6 0x67#8 ++ [0x48#8]) = true ∧
      payloads (List.replicate 6 0x67#8 ++ [0x48#8]) = 0#5 :: 0#5 :: 0#5 :: 0#5 :: 0#5 :: 0#5 :: 7#5 :: []) := by decide

/-- 0, -(2^31 - 1), -1 and -2^31: a boundary value of each arm. -/
theorem witness_ZigzagOfInteger :
    0 ≤ (0#32).toInt ∧ ((0x80000001#32).toInt < 0 ∧ (0x80000001#32).toInt ≠ -2 ^ 31) ∧
    ((0xFFFFFFFF#32).toInt < 0 ∧ (0xFFFFFFFF#32).toInt ≠ -2 ^ 31) ∧ (0x80000000#32).toInt = -2 ^ 31 := by decide

theorem witness_GroupLengths : groupLen 0x40000000#32 = 7 := by decide

theorem witness_EncoderNeverEmitsEquals : 0x2F#8 ∈ encodeGroup 0x7FFFFFFF#32 := by decide

theorem witness_EncWordEmitsItsGroup : ready.encBusy = false ∧ hostTakesChars ready := by decide

theorem witness_EncWordWaits :
    ((emitting 7#32).encBusy = true ∧ hostTakesChars (emitting 7#32)) ∧
    (State.reset.encBusy = false ∧ State.reset.pins.rst = false ∧ State.reset.pins.encOutReady = false) ∧
    ({ emitting 7#32 with pins := Pins.idle }.encBusy = true ∧ { emitting 7#32 with pins := Pins.idle }.pins.encOutReady = false) ∧
    (ready.drive { Pins.idle with rst := true }).pins.rst = true := by decide

theorem witness_EncAcceptLoadsZigzag :
    (ready.encBusy = false ∧ ready.pins.rst = false) ∧ (emitting 0#32).encBusy = true ∧
    (ready.drive { Pins.idle with rst := true }).pins.rst = true := by decide

theorem witness_EncEmitSendsOneDigit :
    ((emitting 31#32).encBusy = true ∧ hostTakesChars (emitting 31#32)) ∧
    ((emitting 32#32).encBusy = true ∧ hostTakesChars (emitting 32#32)) ∧ ready.encBusy = false ∧
    State.reset.pins.encOutReady = false ∧ (ready.drive { Pins.idle with rst := true }).pins.rst = true := by decide

theorem witness_EncodeRunsItsWords : encIdle ready ∧ hostTakesChars ready := by decide

theorem witness_CharTokenCrosses :
    ((emitting 32#32).encBusy = true ∧ hostTakesChars (emitting 32#32)) ∧ emitEnabled ready = false ∧
    encOutToken (emitting 7#32) ≠ ⟨true, 0x41#8⟩ := by decide

theorem witness_SymbolSplits :
    (31#7).toNat ≤ 31 ∧ (32 ≤ (32#7).toNat ∧ (32#7).toNat ≤ 63) ∧ (32 ≤ (63#7).toNat ∧ (63#7).toNat ≤ 63) := by decide

theorem witness_AccumulatorAddsPayload :
    32 ≤ (35#6).toNat ∧ (30#6).toNat = 30 ∧ ((25#6).toNat ≤ 25 ∧ (33554431#32).toNat < 2 ^ (25#6).toNat) ∧
    ((0#6).toNat ≤ 25 ∧ (0#32).toNat < 2 ^ (0#6).toNat) := by decide

theorem witness_IntegerOfZigzag :
    (0xFFFFFFFE#32).toNat % 2 = 0 ∧ ((3#32).toNat % 2 = 1 ∧ (3#32).toNat / 2 ≠ 0) ∧ (1#32).toNat = 1 := by decide

/-- `f` (31) and `=` (64), the ends of the two ranges. -/
theorem witness_DecCharEndsGroup :
    (inv 0x66#8 = ⟨true, 31#7⟩ ∧ (31#7).toNat < 32 ∧ inv 0x3D#8 = ⟨true, 64#7⟩ ∧ (64#7).toNat = 64) ∧
    (reading 22#32 5#6 false).decFail = false ∧ hostTakesDecOut (reading 22#32 5#6 false) := by decide

/-- `g` (32) and `/` (63), the ends of the range. -/
theorem witness_DecCharContinuesGroup :
    (inv 0x67#8 = ⟨true, 32#7⟩ ∧ 32 ≤ (32#7).toNat ∧ (32#7).toNat ≤ 63) ∧
    (inv 0x2F#8 = ⟨true, 63#7⟩ ∧ 32 ≤ (63#7).toNat ∧ (63#7).toNat ≤ 63) ∧
    State.reset.decFail = false ∧ State.reset.pins.rst = false := by decide

theorem witness_BadCharacterFails :
    (inv 0x20#8).valid = false ∧ State.reset.decFail = false ∧ State.reset.pins.rst = false := by decide

theorem witness_FailedStringIgnoresCharacters :
    (reading 424#32 10#6 true).decFail = true ∧ (reading 424#32 10#6 true).pins.rst = false := by decide

theorem witness_DecCharWaits :
    (inv 0x41#8 = ⟨true, 0#7⟩ ∧ (0#7).toNat < 32 ∧ State.reset.decFail = false ∧ State.reset.pins.decOutReady = false) ∧
    (inv 0x3D#8 = ⟨true, 64#7⟩ ∧ (64#7).toNat = 64) ∧
    (0x41#8, Instr.decCharUpperA) ∈ charForms ∧ (0x3D#8, Instr.decCharEquals) ∈ charForms ∧
    (ready.drive { Pins.idle with rst := true }).pins.rst = true := by decide

theorem witness_TerminatingFormsEndGroup :
    (Instr.decCharLowerF, 31) ∈ terminatingForms ∧ ready.decFail = false ∧ hostTakesDecOut ready := by decide

theorem witness_ContinuationFormsContinueGroup :
    (Instr.decCharSlash, 31) ∈ continuationForms ∧ State.reset.decFail = false ∧ State.reset.pins.rst = false := by decide

theorem witness_EqualsActsAsA :
    (reading 22#32 5#6 false).decFail = false ∧ hostTakesDecOut (reading 22#32 5#6 false) := by decide

theorem witness_DecEosReportsAndClears :
    hostTakesDecOut (reading 22#32 5#6 false) ∧ State.reset.pins.decOutReady = false ∧
    (ready.drive { Pins.idle with rst := true }).pins.rst = true := by decide

theorem witness_DecodeRunsItsString : atGroupStart ready ∧ ready.decRes = [] ∧ hostTakesDecOut ready := by decide

theorem witness_WordTokenCrosses :
    (let s := offering false 0x48#8 (reading 22#32 5#6 false)
     s.pins.decInValid = true ∧ s.pins.decInEos = false ∧ inv s.pins.decInChar = ⟨true, 7#7⟩ ∧ (7#7).toNat < 32 ∧
       s.decFail = false ∧ hostTakesDecOut s) ∧
    (let s := offering false 0x3D#8 ready
     s.pins.decInValid = true ∧ s.pins.decInEos = false ∧ inv s.pins.decInChar = ⟨true, 64#7⟩ ∧ (64#7).toNat = 64 ∧
       s.decFail = false ∧ hostTakesDecOut s) ∧
    decOutOffered ready ≠ some (.word 0#32) ∧ State.reset.pins.decOutReady = false := by decide

theorem witness_DoneTokenCrosses :
    (let s := offering true 0#8 (reading 22#32 5#6 false)
     s.pins.decInValid = true ∧ s.pins.decInEos = true ∧ hostTakesDecOut s) ∧
    decOutOffered ready ≠ some (.done true) ∧ State.reset.pins.decOutReady = false := by decide

theorem witness_StringsAreIndependent : hostTakesDecOut (reading 424#32 10#6 true) := by decide

theorem witness_AccumulatorIsOr : decInv (reading 1073741822#32 30#6 false) ∧ decInv (reading 5#32 35#6 false) := by decide

theorem witness_ZigzagIsBijection :
    1 ≤ (1#32).toInt ∧ ((0xFFFFFFFF#32).toInt ≤ -1 ∧ -2 ^ 31 < (0xFFFFFFFF#32).toInt) ∧
    ((0x80000001#32).toInt ≤ -1 ∧ -2 ^ 31 < (0x80000001#32).toInt) := by decide

/-- `+/////D`: six characters before the last. -/
theorem witness_AccumulatorUndoesDigits : 5 + 1 < (digits 0xFFFFFFFE#32).length := by decide

theorem witness_GroupsArePrefixFree :
    encodeGroup 16#32 <+: encodeGroup 16#32 ∧ encodeInts [16#32] = encodeInts [16#32] := by decide

/-- `gA` decodes to 0 and `A` is its canonical spelling. -/
theorem witness_EncodeOfDecode : decodeStr [0x67#8, 0x41#8] = some [0#32] ∧ decodeStr [0x41#8] = some [0#32] := by decide

theorem witness_StepRunsDecoded :
    ({ State.reset with script := [.token (.decIn 0x041#9)] }.script = .token (.decIn 0x041#9) :: [] ∧
      decodeToken (.decIn 0x041#9) = .ok .decCharUpperA) ∧
    ({ State.reset with script := [.period Pins.idle] }.script = .period Pins.idle :: [] ∧ Pins.idle.rst = false) ∧
    ({ State.reset with script := [.token (.encOut 0#9)] }.script = .token (.encOut 0#9) :: [] ∧
      decodeToken (.encOut 0#9) = .error .noDigitOfEnc) := by decide

theorem witness_BlockNeverStops :
    ∀ (t : Token) (rest : List HostMove), (State.reset.withFetchWord 32 0x7B).script = .token t :: rest →
      ∃ i, decodeToken t = .ok i := by
  intro t rest h
  simp only [State.withFetchWord, tokenOfWord, State.reset] at h
  injection h with h _
  injection h with h
  subst h
  exact ⟨_, rfl⟩

theorem witness_ResetEdge : ({ Pins.idle with rst := true } : Pins).rst = true := by decide

theorem witness_StateAfterReset :
    (Pins.idle.rst = false ∧ Pins.idle.decInValid = false) ∧
    ({ Pins.idle with decInValid := true } : Pins).decInValid = true := by decide

theorem witness_StepKeepsInvariant :
    blockInv State.reset ∧
    blockInv { emitting 7#32 with decValue := 22#32, decShift := 5#6, encTrace := [⟨false, 0x32#8⟩] } ∧
    (nextOf (step State.reset)).isSome = true := by decide

theorem witness_FailedDecoderIsFrozen :
    (reading 424#32 10#6 true).decFail = true ∧ Pins.idle.rst = false ∧ (Pins.idle.decInValid && Pins.idle.decInEos) = false := by
  decide

theorem witness_OnlyBadCharactersSetFail :
    (nextOf (edge { Pins.idle with decInValid := true, decInChar := 0x20#8 } State.reset)).map (fun t => t.decFail) = some true ∧
    State.reset.decFail = false := by decide

theorem witness_AgentsDoNotInterfere :
    Pins.idle.rst = Pins.idle.rst ∧ sameEnc (emitting 7#32) { emitting 7#32 with decFail := true } ∧
    sameDec (reading 22#32 5#6 false) { reading 22#32 5#6 false with encBusy := true } := by decide

theorem witness_AgentsWaitForTheHost :
    (Pins.idle.rst = false ∧ (emitting 7#32).encBusy = true ∧ Pins.idle.encOutReady = false) ∧
    (let p : Pins := { Pins.idle with decInValid := true, decInChar := 0x41#8 }
     p.rst = false ∧ p.decInValid = true ∧ p.decOutReady = false ∧ emission p.decInEos p.decInChar State.reset ≠ none) := by decide

theorem witness_StreamsOnlyGrow : Pins.idle.rst = false := by decide

theorem witness_FinishedRunStays : State.reset.script = [] ∧ State.reset.encBusy = false := by decide

theorem witness_WordIsItsSteps :
    let p : Pins := { Pins.idle with encInValid := true, encInData := 123#32 }
    let ps := List.replicate 2 ready.pins
    State.reset.encBusy = false ∧ p.rst = false ∧ p.encInValid = true ∧ p.encInData = 123#32 ∧
      ps.length = groupLen (zz 123#32) ∧ ∀ q ∈ ps, q.rst = false ∧ q.encOutReady = true := by decide

theorem witness_EncoderEmitsEncode :
    encIdle State.reset ∧
    (∀ p ∈ [{ Pins.idle with encInValid := true, encInData := 123#32 }, Pins.idle], p.rst = false) ∧
    (afterPeriods [{ Pins.idle with encInValid := true }, ready.pins] State.reset).encBusy = false := by decide

theorem witness_DecoderComputesDecode :
    atGroupStart State.reset ∧ State.reset.decRes = [] ∧
    ∀ p ∈ [{ Pins.idle with decInValid := true, decInChar := 0x32#8 }, Pins.idle], p.rst = false := by decide

theorem witness_LoopBack :
    encIdle State.reset ∧ atGroupStart State.reset ∧
    (let p : Pins := { Pins.idle with decInValid := true, decInEos := true, decOutReady := true }
     p.rst = false ∧ p.decInValid = true ∧ p.decInEos = true ∧ p.decOutReady = true) := by decide

end Sys2Proof.Tests
end

/-! The two ROMs are inverse to each other (20_memory.md R32). Each ROM has three runs of consecutive entries and three single ones;
a run's lemmas, one for each ROM, count its entries from the run's start. -/

namespace Sys2Proof.Proofs.Roms

open Sys2Proof Sys2Proof.Machine

/-! ## The runs of the forward ROM -/

theorem alpha_upper (k : Nat) (hk : k < 26) : alpha ⟨k, by simp only [Config.nsym]; omega⟩ = BitVec.ofNat 8 (0x41 + k) :=
  if_pos hk

theorem alpha_lower (k : Nat) (hk : k < 26) :
    alpha ⟨26 + k, by simp only [Config.nsym]; omega⟩ = BitVec.ofNat 8 (0x61 + k) := by
  have h52 : 26 + k < 52 := by omega
  simp [alpha, h52]

theorem alpha_digit (k : Nat) (hk : k < 10) :
    alpha ⟨52 + k, by simp only [Config.nsym]; omega⟩ = BitVec.ofNat 8 (0x30 + k) := by
  have h26 : ¬ 52 + k < 26 := by omega
  have h62 : 52 + k < 62 := by omega
  simp [alpha, h26, h62]

/-! ## The runs of the inverse ROM -/

theorem inv_upper : ∀ k < 26, inv (BitVec.ofNat 8 (0x41 + k)) = ⟨true, BitVec.ofNat 7 k⟩ := by decide

theorem inv_lower : ∀ k < 26, inv (BitVec.ofNat 8 (0x61 + k)) = ⟨true, BitVec.ofNat 7 (26 + k)⟩ := by decide

theorem inv_digit : ∀ k < 10, inv (BitVec.ofNat 8 (0x30 + k)) = ⟨true, BitVec.ofNat 7 (52 + k)⟩ := by decide

/-! ## Positions and codes -/

theorem toNat_ofNat_position (i : Fin Config.nsym) : (BitVec.ofNat 7 i.val).toNat = i.val := by
  have hi : i.val < 65 := i.isLt
  rw [BitVec.toNat_ofNat]
  omega

/-- Reading `INV` at an `ALPHA` entry gives back its position: the runs correspond, and three entries stand alone. -/
theorem inv_alpha (i : Fin Config.nsym) : inv (alpha i) = ⟨true, BitVec.ofNat 7 i.val⟩ := by
  obtain ⟨i, hi⟩ := i
  have hrun : i < 26 ∨ (26 ≤ i ∧ i < 52) ∨ (52 ≤ i ∧ i < 62) ∨ i = 62 ∨ i = 63 ∨ i = 64 := by
    simp only [Config.nsym] at hi
    omega
  obtain hi26 | ⟨h26, hi52⟩ | ⟨h52, hi62⟩ | rfl | rfl | rfl := hrun
  · rw [alpha_upper i hi26, inv_upper i hi26]
  · obtain ⟨k, rfl⟩ := Nat.exists_eq_add_of_le h26
    rw [alpha_lower k (by omega), inv_lower k (by omega)]
  · obtain ⟨k, rfl⟩ := Nat.exists_eq_add_of_le h52
    rw [alpha_digit k (by omega), inv_digit k (by omega)]
  · rfl
  · rfl
  · rfl

/-- Every code that `INV` marks valid is an entry of `ALPHA`, arm by arm of `INV`. -/
theorem exists_alpha_eq {c : CharCode} (hc : (inv c).valid = true) : ∃ i, alpha i = c := by
  have code (a : Nat) (ha : a ≤ c.toNat) : BitVec.ofNat 8 (a + (c.toNat - a)) = c := by
    rw [Nat.add_sub_cancel' ha, BitVec.ofNat_toNat, BitVec.setWidth_eq]
  unfold inv at hc
  split_ifs at hc with hplus hslash hdigit heq hupper hlower
  · exact ⟨⟨62, by decide⟩, hplus.symm⟩
  · exact ⟨⟨63, by decide⟩, hslash.symm⟩
  · exact ⟨_, (alpha_digit (c.toNat - 0x30) (by omega)).trans (code 0x30 hdigit.1)⟩
  · exact ⟨⟨64, by decide⟩, heq.symm⟩
  · exact ⟨_, (alpha_upper (c.toNat - 0x41) (by omega)).trans (code 0x41 hupper.1)⟩
  · exact ⟨_, (alpha_lower (c.toNat - 0x61) (by omega)).trans (code 0x61 hlower.1)⟩

/-- A valid code stands in `ALPHA` at the position that `INV` gives for it. -/
theorem alpha_inv {c : CharCode} (hc : (inv c).valid = true) :
    ∃ h : (inv c).val.toNat < Config.nsym, alpha ⟨(inv c).val.toNat, h⟩ = c := by
  obtain ⟨i, rfl⟩ := exists_alpha_eq hc
  have hval : (inv (alpha i)).val.toNat = i.val := by rw [inv_alpha, toNat_ofNat_position]
  exact ⟨hval ▸ i.isLt, congrArg alpha (Fin.ext hval)⟩

/-- `ALPHA` repeats no code, since `INV` tells the position back. -/
theorem alpha_injective {i j : Fin Config.nsym} (h : alpha i = alpha j) : i = j := by
  have hval : (inv (alpha i)).val.toNat = (inv (alpha j)).val.toNat := by rw [h]
  rw [inv_alpha, inv_alpha, toNat_ofNat_position, toNat_ofNat_position] at hval
  exact Fin.ext hval

/-- Settles O1: `INV` undoes `ALPHA`, and every valid code is an entry of `ALPHA`. -/
theorem romsAreInverse : Obligations.RomsAreInverse :=
  ⟨inv_alpha, fun _ hc => alpha_inv hc, fun _ _ h => alpha_injective h⟩

end Sys2Proof.Proofs.Roms

/-! The zig-zag map (40_encoder.md R65): each arm as a number, and the three arms as one formula. -/

namespace Sys2Proof.Proofs.Zigzag

open Sys2Proof Sys2Proof.Machine

/-- Setting the free low bit of an even number adds it. -/
theorem two_mul_or_toNat (a : Nat) (b : Bool) : 2 * a ||| b.toNat = 2 * a + b.toNat :=
  (Nat.two_pow_add_eq_or_of_lt (i := 1) b.toNat_lt a).symm

/-! ## The arms of `zz` -/

theorem toNat_zz_of_msb_false {n : Word} (h : n.msb = false) : (zz n).toNat = 2 * n.toNat := by
  have hlt : 2 * n.toNat < 2 ^ 32 := BitVec.msb_eq_false_iff_two_mul_lt.mp h
  rw [zz, if_pos h, BitVec.toNat_shiftLeft]
  omega

/-- The magnitude of a negative integer other than `MININT` leaves bit 31 free for the shift. -/
theorem toNat_neg_lt {n : Word} (h : n.msb = true) (hmin : n ≠ Config.minInt) : (-n).toNat < 2 ^ 31 := by
  have hge : 2 ^ 32 ≤ 2 * n.toNat := BitVec.msb_eq_true_iff_two_mul_ge.mp h
  have hne : n.toNat ≠ 2 ^ 31 := fun e => hmin (BitVec.eq_of_toNat_eq e)
  rw [BitVec.toNat_neg]
  omega

theorem toNat_zz_of_msb_true {n : Word} (h : n.msb = true) (hmin : n ≠ Config.minInt) :
    (zz n).toNat = 2 * (-n).toNat + 1 := by
  have hlt : (-n).toNat < 2 ^ 31 := toNat_neg_lt h hmin
  have hshift : ((-n) <<< 1).toNat = 2 * (-n).toNat := by rw [BitVec.toNat_shiftLeft]; omega
  rw [zz, if_neg (by simp [h]), if_pos hmin, BitVec.toNat_or, hshift]
  exact two_mul_or_toNat (-n).toNat true

theorem zz_minInt : zz Config.minInt = 1#32 := rfl

/-! ## The one formula -/

/-- The word `{m[30:0], b}` as a number. -/
theorem toNat_low31_append_ofBool (m : Word) (b : Bool) :
    (BitVec.extractLsb' 0 31 m ++ BitVec.ofBool b).toNat = 2 * (m.toNat % 2 ^ 31) + b.toNat := by
  rw [BitVec.toNat_append, BitVec.extractLsb'_toNat, BitVec.toNat_ofBool, Nat.shiftRight_zero, Nat.shiftLeft_eq,
    Nat.mul_comm]
  exact two_mul_or_toNat _ b

/-- `ZZ` drops bit 31 of `m` and appends the sign: the bit dropped is 0, but for `MININT`, whose `m` is that bit alone. -/
theorem zz_eq_low31_append_msb (n : Word) :
    zz n = BitVec.extractLsb' 0 31 (if n.msb then -n else n) ++ BitVec.ofBool n.msb := by
  apply BitVec.eq_of_toNat_eq
  rw [toNat_low31_append_ofBool]
  cases hmsb : n.msb with
  | false =>
    have hlt : 2 * n.toNat < 2 ^ 32 := BitVec.msb_eq_false_iff_two_mul_lt.mp hmsb
    have hmod : n.toNat % 2 ^ 31 = n.toNat := Nat.mod_eq_of_lt (by omega)
    rw [toNat_zz_of_msb_false hmsb, if_neg Bool.false_ne_true, hmod, Bool.toNat_false, Nat.add_zero]
  | true =>
    by_cases hmin : n = Config.minInt
    · subst hmin; rfl
    · have hmod : (-n).toNat % 2 ^ 31 = (-n).toNat := Nat.mod_eq_of_lt (toNat_neg_lt hmsb hmin)
      rw [toNat_zz_of_msb_true hmsb hmin, if_pos rfl, hmod, Bool.toNat_true]

/-! ## The arms over the integers -/

theorem toNat_zz_of_nonneg {n : Word} (h : 0 ≤ n.toInt) : ((zz n).toNat : Int) = 2 * n.toInt := by
  have hmsb : n.msb = false := by rw [BitVec.msb_eq_toInt]; simpa using h
  rw [toNat_zz_of_msb_false hmsb, BitVec.toInt_eq_toNat_of_msb hmsb]
  push_cast
  rfl

theorem toNat_zz_of_neg {n : Word} (h : n.toInt < 0) (hmin : n ≠ Config.minInt) :
    ((zz n).toNat : Int) = 2 * (-n.toInt) + 1 := by
  have hmsb : n.msb = true := by rw [BitVec.msb_eq_toInt]; simpa using h
  rw [toNat_zz_of_msb_true hmsb hmin, BitVec.toInt_eq_neg_toNat_neg_of_msb_true hmsb, Int.neg_neg]
  push_cast
  rfl

theorem eq_minInt_iff {n : Word} : n = Config.minInt ↔ n.toInt = -2 ^ 31 :=
  BitVec.toInt_inj.symm

/-- Settles O9: the three arms over the integers, and the one formula. -/
theorem zigzagOfInteger : Obligations.ZigzagOfInteger := fun n =>
  ⟨toNat_zz_of_nonneg,
    fun hneg hne => toNat_zz_of_neg hneg fun hmin => hne (eq_minInt_iff.mp hmin),
    fun hmin => by rw [eq_minInt_iff.mpr hmin, zz_minInt]; rfl,
    zz_eq_low31_append_msb n⟩

end Sys2Proof.Proofs.Zigzag

/-! The digit packer (40_encoder.md R67). One division by 32 takes a digit off the word and one off `GroupLen`; by induction on the fuel
the digits are those of the closed form, and the recursion on `Digits` itself follows, since `MAXGROUP` is fuel enough. -/

namespace Sys2Proof.Proofs.Digits

open Sys2Proof Sys2Proof.Machine

/-! ## One digit of the packer -/

theorem toNat_restOf (u : Word) : (restOf u).toNat = u.toNat / 32 :=
  (BitVec.toNat_ushiftRight u 5).trans (Nat.shiftRight_eq_div_pow u.toNat 5)

theorem restOf_lt_two_pow (u : Word) (k : Nat) : (restOf u).toNat < 2 ^ k ↔ u.toNat < 2 ^ (k + 5) := by
  rw [toNat_restOf, Nat.div_lt_iff_lt_mul (by decide), Nat.pow_add]

theorem restOf_eq_ofNat (u : Word) : restOf u = BitVec.ofNat 32 (u.toNat / 32) := by
  rw [← toNat_restOf, BitVec.ofNat_toNat, BitVec.setWidth_eq]

theorem lowPayload_eq_ofNat (u : Word) : lowPayload u = BitVec.ofNat 5 u.toNat := by
  rw [lowPayload, BitVec.extractLsb', Nat.shiftRight_zero]

theorem moreAfter_eq_decide (u : Word) : moreAfter u = decide (u.toNat / 32 ≠ 0) := by
  have hzero : restOf u = 0#32 ↔ u.toNat / 32 = 0 := by rw [← toNat_restOf, ← BitVec.toNat_inj]; rfl
  rw [Bool.eq_iff_iff, decide_eq_true_iff, moreAfter, bne_iff_ne, Ne, hzero]

theorem nextDigit_eq (u : Word) :
    nextDigit u = mkDigit (decide (u.toNat / 32 ≠ 0)) (BitVec.ofNat 5 u.toNat) := by
  rw [nextDigit, moreAfter_eq_decide, lowPayload_eq_ofNat]

theorem digitsFuel_succ (k : Nat) (u : Word) :
    digitsFuel (k + 1) u = if u.toNat / 32 ≠ 0 then nextDigit u :: digitsFuel k (restOf u) else [nextDigit u] := by
  rw [digitsFuel, moreAfter_eq_decide]
  simp only [decide_eq_true_eq]

/-! ## The length of a group -/

theorem groupLen_pos (u : Word) : 0 < groupLen u := by
  unfold groupLen
  split_ifs <;> omega

theorem groupLen_le_maxGroup (u : Word) : groupLen u ≤ Config.maxGroup := by
  unfold groupLen Config.maxGroup
  split_ifs <;> omega

theorem groupLen_of_div_eq_zero {u : Word} (h : u.toNat / 32 = 0) : groupLen u = 1 :=
  if_pos (by omega)

theorem groupLen_of_div_ne_zero {u : Word} (h : u.toNat / 32 ≠ 0) : groupLen u = groupLen (restOf u) + 1 := by
  have hge : ¬ u.toNat < 2 ^ 5 := by omega
  have htop : u.toNat < 2 ^ 35 := by omega
  simp only [groupLen, restOf_lt_two_pow, Nat.reduceAdd, if_neg hge, if_pos htop]
  split_ifs <;> rfl

/-! ## The closed form -/

/-- Digit `i` of the group of `u`, in the closed form of R67. -/
def closedDigit (u : Word) (i : Nat) : Digit :=
  mkDigit (decide (i < groupLen u - 1)) (BitVec.ofNat 5 (u.toNat / 2 ^ (5 * i)))

/-- The group of `u`, in the closed form of R67. -/
def closedDigits (u : Word) : List Digit := (List.range (groupLen u)).map (closedDigit u)

theorem closedDigit_zero (u : Word) : closedDigit u 0 = nextDigit u := by
  have hmore : 0 < groupLen u - 1 ↔ u.toNat / 32 ≠ 0 := by
    by_cases h : u.toNat / 32 = 0
    · simp [h, groupLen_of_div_eq_zero h]
    · simp [h, groupLen_of_div_ne_zero h, groupLen_pos]
  simp only [closedDigit, nextDigit_eq, hmore, Nat.mul_zero, Nat.pow_zero, Nat.div_one]

theorem closedDigit_succ {u : Word} (h : u.toNat / 32 ≠ 0) (i : Nat) :
    closedDigit u (i + 1) = closedDigit (restOf u) i := by
  have hlt : i + 1 < groupLen u - 1 ↔ i < groupLen (restOf u) - 1 := by
    rw [groupLen_of_div_ne_zero h]
    omega
  have hpow : u.toNat / 2 ^ (5 * (i + 1)) = u.toNat / 32 / 2 ^ (5 * i) := by
    rw [Nat.div_div_eq_div_mul, Nat.mul_succ, Nat.pow_add, Nat.mul_comm]
  simp only [closedDigit, hlt, hpow, toNat_restOf]

theorem closedDigits_eq (u : Word) :
    closedDigits u = if u.toNat / 32 ≠ 0 then nextDigit u :: closedDigits (restOf u) else [nextDigit u] := by
  split_ifs with h
  · have hcomp : closedDigit u ∘ Nat.succ = closedDigit (restOf u) := funext (closedDigit_succ h)
    rw [closedDigits, groupLen_of_div_ne_zero h, List.range_succ_eq_map, List.map_cons, closedDigit_zero, List.map_map,
      hcomp, closedDigits]
  · rw [closedDigits, groupLen_of_div_eq_zero (not_not.mp h), List.range_one, List.map_singleton, closedDigit_zero]

/-! ## `Digits` -/

/-- Fuel for the whole group is fuel enough. -/
theorem digitsFuel_eq_closedDigits {k : Nat} {u : Word} (hk : groupLen u ≤ k) : digitsFuel k u = closedDigits u := by
  induction k generalizing u with
  | zero => exact absurd (groupLen_pos u) (by omega)
  | succ k ih =>
    rw [digitsFuel_succ, closedDigits_eq]
    split_ifs with h
    · rw [groupLen_of_div_ne_zero h] at hk
      rw [ih (Nat.le_of_succ_le_succ hk)]
    · rfl

theorem digits_eq_closedDigits (u : Word) : digits u = closedDigits u :=
  digitsFuel_eq_closedDigits (groupLen_le_maxGroup u)

theorem digits_of_div_ne_zero {u : Word} (h : u.toNat / 32 ≠ 0) : digits u = nextDigit u :: digits (restOf u) := by
  rw [digits_eq_closedDigits, digits_eq_closedDigits, closedDigits_eq, if_pos h]

theorem digits_of_div_eq_zero {u : Word} (h : u.toNat / 32 = 0) : digits u = [nextDigit u] := by
  rw [digits_eq_closedDigits, closedDigits_eq, if_neg (not_not.mpr h)]

/-- The recursion of `Digits`, with each digit's fields as numbers. -/
theorem digits_recursion (u : Word) :
    digits u = if u.toNat / 32 ≠ 0
      then mkDigit true (BitVec.ofNat 5 u.toNat) :: digits (BitVec.ofNat 32 (u.toNat / 32))
      else [mkDigit false (BitVec.ofNat 5 u.toNat)] := by
  split_ifs with h
  · rw [digits_of_div_ne_zero h, nextDigit_eq, decide_eq_true h, restOf_eq_ofNat]
  · rw [digits_of_div_eq_zero (not_not.mp h), nextDigit_eq, decide_eq_false h]

/-- Settles O10: the recursion, and the closed form. -/
theorem digitsOfWord : Obligations.DigitsOfWord := fun u => ⟨digits_recursion u, digits_eq_closedDigits u⟩

end Sys2Proof.Proofs.Digits

/-! The zig-zag inverse (41_decoder.md R82). Each arm is stated over the integers, as the arms of `ZZ` are; that the two maps undo each
other is then arithmetic, arm by arm. -/

namespace Sys2Proof.Proofs.ZigzagInverse

open Sys2Proof Sys2Proof.Machine Sys2Proof.Proofs.Zigzag

/-! ## The arms of `zzInv` over the integers -/

theorem getLsbD_zero_eq_false_iff (v : Word) : v.getLsbD 0 = false ↔ v.toNat % 2 = 0 := by
  rw [BitVec.getLsbD, Nat.testBit_zero, decide_eq_false_iff_not, Nat.mod_two_not_eq_one]

theorem toNat_half (v : Word) : (v >>> 1).toNat = v.toNat / 2 :=
  (BitVec.toNat_ushiftRight v 1).trans (Nat.shiftRight_eq_div_pow v.toNat 1)

/-- The shift is unsigned, so the half is never a negative integer. -/
theorem toInt_half (v : Word) : (v >>> 1).toInt = ((v.toNat / 2 : Nat) : Int) := by
  have hlt : 2 * (v >>> 1).toNat < 2 ^ 32 := by rw [toNat_half]; omega
  rw [BitVec.toInt_eq_toNat_of_lt hlt, toNat_half]

theorem toInt_neg_half (v : Word) : (-(v >>> 1)).toInt = -((v.toNat / 2 : Nat) : Int) := by
  have hlt : v.toNat / 2 < 2 ^ 31 := by omega
  rw [BitVec.toInt_neg, toInt_half, Int.bmod_eq_of_le] <;> omega

theorem toInt_zzInv_of_even {v : Word} (h : v.toNat % 2 = 0) : (zzInv v).toInt = ((v.toNat / 2 : Nat) : Int) := by
  rw [zzInv, if_pos ((getLsbD_zero_eq_false_iff v).mpr h), toInt_half]

theorem toInt_zzInv_of_odd {v : Word} (h : v.toNat % 2 = 1) (hhalf : v.toNat / 2 ≠ 0) :
    (zzInv v).toInt = -((v.toNat / 2 : Nat) : Int) := by
  have hodd : ¬ v.getLsbD 0 = false := fun e => by
    have heven := (getLsbD_zero_eq_false_iff v).mp e
    omega
  have hne : v >>> 1 ≠ 0#32 := fun e => hhalf (by rw [← toNat_half, e]; rfl)
  rw [zzInv, if_neg hodd, if_pos hne, toInt_neg_half]

theorem zzInv_of_toNat_eq_one {v : Word} (h : v.toNat = 1) : zzInv v = Config.minInt := by
  obtain rfl : v = 1#32 := BitVec.eq_of_toNat_eq h
  rfl

/-! ## Inverse in both directions -/

theorem zz_zzInv (v : Word) : zz (zzInv v) = v := by
  apply BitVec.eq_of_toNat_eq
  have harm : v.toNat % 2 = 0 ∨ (v.toNat % 2 = 1 ∧ v.toNat / 2 ≠ 0) ∨ v.toNat = 1 := by omega
  obtain heven | ⟨hodd, hhalf⟩ | hone := harm
  · have hint := toInt_zzInv_of_even heven
    have hzz := toNat_zz_of_nonneg (n := zzInv v) (by omega)
    omega
  · have hint := toInt_zzInv_of_odd hodd hhalf
    have hzz := toNat_zz_of_neg (n := zzInv v) (by omega) (mt eq_minInt_iff.mp (by omega))
    omega
  · rw [zzInv_of_toNat_eq_one hone, zz_minInt, hone]
    rfl

theorem zzInv_zz (n : Word) : zzInv (zz n) = n := by
  by_cases hmin : n = Config.minInt
  · rw [hmin, zz_minInt, zzInv_of_toNat_eq_one rfl]
  · apply BitVec.eq_of_toInt_eq
    obtain hnonneg | hneg := le_or_gt 0 n.toInt
    · have hzz := toNat_zz_of_nonneg hnonneg
      rw [toInt_zzInv_of_even (by omega)]
      omega
    · have hzz := toNat_zz_of_neg hneg hmin
      rw [toInt_zzInv_of_odd (by omega) (by omega)]
      omega

/-- Settles O21: the three arms over the integers, and that `ZZ` and `ZZinv` undo each other. -/
theorem integerOfZigzag : Obligations.IntegerOfZigzag := fun v =>
  ⟨toInt_zzInv_of_even,
    toInt_zzInv_of_odd,
    fun hone => eq_minInt_iff.mp (zzInv_of_toNat_eq_one hone),
    zz_zzInv v,
    zzInv_zz⟩

end Sys2Proof.Proofs.ZigzagInverse

/-! The fields of a symbol value (41_decoder.md R80): the flag is bit 5, the payload the five bits below it. -/

namespace Sys2Proof.Proofs.Symbols

open Sys2Proof Sys2Proof.Machine

theorem contOf_eq_decide (v : Symbol) : contOf v = decide (v.toNat / 32 % 2 = 1) :=
  Nat.testBit_eq_decide_div_mod_eq

theorem toNat_payloadOf (v : Symbol) : (payloadOf v).toNat = v.toNat % 32 := by
  rw [payloadOf, BitVec.extractLsb'_toNat, Nat.shiftRight_zero]

/-- Settles O19: each range of values fixes the quotient and the remainder by 32. -/
theorem symbolSplits : Obligations.SymbolSplits := by
  refine ⟨fun v hv => ?low, fun v hlo hhi => ?high, rfl, rfl⟩
  case low =>
    have hdiv : v.toNat / 32 = 0 := by omega
    rw [contOf_eq_decide, hdiv, toNat_payloadOf]
    exact ⟨rfl, by omega⟩
  case high =>
    have hdiv : v.toNat / 32 = 1 := by omega
    rw [contOf_eq_decide, hdiv, toNat_payloadOf]
    exact ⟨rfl, by omega⟩

end Sys2Proof.Proofs.Symbols

/-! `StepChar` (41_decoder.md R83) case by case: a failed string, a character outside the alphabet, a continuation digit, and a
character that ends the group. -/

namespace Sys2Proof.Proofs.CharSteps

open Sys2Proof Sys2Proof.Machine Sys2Proof.Proofs.Roms Sys2Proof.Proofs.Symbols

/-! ## The lookup of a character -/

theorem lookup_of_invalid {c : CharCode} (hc : (inv c).valid = false) : lookup c = none :=
  if_neg (by simp [hc])

theorem lookup_of_valid {c : CharCode} (hc : (inv c).valid = true) : lookup c = some (inv c).val :=
  if_pos hc

/-- Of the symbol values that `INV` holds, 0 to 64, those with bit 5 set are 32 to 63. -/
theorem contOf_inv_iff {c : CharCode} (hc : (inv c).valid = true) :
    contOf (inv c).val = true ↔ 32 ≤ (inv c).val.toNat ∧ (inv c).val.toNat ≤ 63 := by
  obtain ⟨hlt, -⟩ := alpha_inv hc
  rw [contOf_eq_decide, decide_eq_true_iff]
  simp only [Config.nsym] at hlt
  omega

/-! ## The cases -/

/-- The running state of `Decode` at the start of a group of a string that has not failed, after the words `ws`. -/
def atStart (ws : List Word) : DS := ⟨0#32, 0#6, false, ws⟩

theorem ds0_eq_atStart : ds0 = atStart [] := rfl

theorem finish_atStart (ws : List Word) : finish (atStart ws) = some ws := rfl

theorem stepChar_failed {d : DS} (c : CharCode) (hd : d.fail = true) : stepChar d c = d :=
  if_pos hd

theorem stepChar_bad {d : DS} {c : CharCode} (hd : d.fail = false) (hc : lookup c = none) :
    stepChar d c = { d with fail := true } := by
  simp [stepChar, hd, hc]

theorem stepChar_continues {d : DS} {c : CharCode} {v : Symbol} (hd : d.fail = false) (hc : lookup c = some v)
    (hv : contOf v = true) :
    stepChar d c = { d with value := acc d.value d.shift (payloadOf v), shift := nextShift d.shift } := by
  simp [stepChar, hd, hc, hv]

theorem stepChar_ends {d : DS} {c : CharCode} {v : Symbol} (hd : d.fail = false) (hc : lookup c = some v)
    (hv : contOf v = false) :
    stepChar d c = atStart (d.res ++ [zzInv (acc d.value d.shift (payloadOf v))]) := by
  simp [stepChar, atStart, hd, hc, hv]

end Sys2Proof.Proofs.CharSteps

/-! The round trip (42_codec_laws.md R97). The decoder reads back a group digit by digit, low digit first: what it has accumulated,
plus what is left of the word at the present shift, stays the same modulo 2^32. -/

namespace Sys2Proof.Proofs.RoundTrip

open Sys2Proof Sys2Proof.Machine Sys2Proof.Proofs.Roms Sys2Proof.Proofs.Symbols Sys2Proof.Proofs.Digits
  Sys2Proof.Proofs.ZigzagInverse Sys2Proof.Proofs.CharSteps

/-! ## The decoder on the character of a digit -/

theorem lookup_alphaDigit (d : Digit) : lookup (alphaDigit d) = some (BitVec.ofNat 7 d.toNat) := by
  have hinv : inv (alphaDigit d) = ⟨true, BitVec.ofNat 7 d.toNat⟩ := inv_alpha _
  rw [lookup_of_valid (by rw [hinv]), hinv]

theorem toNat_mkDigit (more : Bool) (p : Payload) : (mkDigit more p).toNat = 32 * more.toNat + p.toNat := by
  rw [mkDigit, BitVec.toNat_append, BitVec.toNat_ofBool, Nat.shiftLeft_eq, Nat.mul_comm]
  exact (Nat.two_pow_add_eq_or_of_lt (i := 5) p.isLt more.toNat).symm

theorem toNat_symbol_mkDigit (more : Bool) (p : Payload) :
    (BitVec.ofNat 7 (mkDigit more p).toNat).toNat = 32 * more.toNat + p.toNat := by
  rw [BitVec.toNat_ofNat, toNat_mkDigit]
  have hmore := more.toNat_lt
  omega

theorem contOf_mkDigit (more : Bool) (p : Payload) : contOf (BitVec.ofNat 7 (mkDigit more p).toNat) = more := by
  have hdiv : (32 * more.toNat + p.toNat) / 32 % 2 = more.toNat := by
    have hmore := more.toNat_lt
    omega
  rw [contOf_eq_decide, toNat_symbol_mkDigit, hdiv]
  cases more <;> rfl

theorem payloadOf_mkDigit (more : Bool) (p : Payload) : payloadOf (BitVec.ofNat 7 (mkDigit more p).toNat) = p := by
  apply BitVec.eq_of_toNat_eq
  rw [toNat_payloadOf, toNat_symbol_mkDigit]
  omega

theorem stepChar_continuationDigit {d : DS} (p : Payload) (hd : d.fail = false) :
    stepChar d (alphaDigit (mkDigit true p)) = { d with value := acc d.value d.shift p, shift := nextShift d.shift } := by
  rw [stepChar_continues hd (lookup_alphaDigit _) (contOf_mkDigit true p), payloadOf_mkDigit]

theorem stepChar_terminatingDigit {d : DS} (p : Payload) (hd : d.fail = false) :
    stepChar d (alphaDigit (mkDigit false p)) = atStart (d.res ++ [zzInv (acc d.value d.shift p)]) := by
  rw [stepChar_ends hd (lookup_alphaDigit _) (contOf_mkDigit false p), payloadOf_mkDigit]

/-! ## The arithmetic of one digit -/

/-- Adding the low digit at the shift, and then the rest one digit further up, adds the whole word. -/
theorem acc_lowDigit (value u : Word) (shift : BitVec 6) :
    BitVec.ofNat 32 ((acc value shift (BitVec.ofNat 5 u.toNat)).toNat + u.toNat / 32 * 2 ^ (shift.toNat + 5)) =
      BitVec.ofNat 32 (value.toNat + u.toNat * 2 ^ shift.toNat) := by
  have hsplit : u.toNat % 32 * 2 ^ shift.toNat + u.toNat / 32 * 2 ^ (shift.toNat + 5) = u.toNat * 2 ^ shift.toNat := by
    calc u.toNat % 32 * 2 ^ shift.toNat + u.toNat / 32 * 2 ^ (shift.toNat + 5)
        = (u.toNat % 32 + 32 * (u.toNat / 32)) * 2 ^ shift.toNat := by ring
      _ = u.toNat * 2 ^ shift.toNat := by rw [Nat.mod_add_div]
  rw [acc, BitVec.ofNat_add, BitVec.ofNat_toNat, BitVec.setWidth_eq, ← BitVec.ofNat_add, BitVec.toNat_ofNat,
    Nat.add_assoc, hsplit]

/-- The shift of a digit that is not the last of a word that fits is short of its saturation. -/
theorem toNat_nextShift {u : Word} {shift : BitVec 6} (hmore : u.toNat / 32 ≠ 0)
    (hfit : u.toNat * 2 ^ shift.toNat < 2 ^ 32) : (nextShift shift).toNat = shift.toNat + 5 := by
  have hpow : 2 ^ (shift.toNat + 5) < 2 ^ 32 := by
    calc 2 ^ (shift.toNat + 5) = 32 * 2 ^ shift.toNat := by ring
      _ ≤ u.toNat * 2 ^ shift.toNat := Nat.mul_le_mul_right _ (by omega)
      _ < 2 ^ 32 := hfit
  have hlt : shift.toNat + 5 < 32 := (Nat.pow_lt_pow_iff_right (by decide)).mp hpow
  simp only [nextShift, Config.payloadBits, Config.shiftSat, BitVec.toNat_ofNat]
  omega

/-- What is left of a word that fits still fits one digit further up. -/
theorem restOf_fits {u : Word} {shift : BitVec 6} (hfit : u.toNat * 2 ^ shift.toNat < 2 ^ 32) :
    (restOf u).toNat * 2 ^ (shift.toNat + 5) < 2 ^ 32 := by
  calc (restOf u).toNat * 2 ^ (shift.toNat + 5) = u.toNat / 32 * 32 * 2 ^ shift.toNat := by rw [toNat_restOf]; ring
    _ ≤ u.toNat * 2 ^ shift.toNat := Nat.mul_le_mul_right _ (Nat.div_mul_le_self _ _)
    _ < 2 ^ 32 := hfit

/-! ## A group -/

/-- The recursion of `Digits` (40_encoder.md R67) as an induction: from the rest of a word to the word. -/
theorem digits_induction {P : Word → Prop} (last : ∀ u : Word, u.toNat / 32 = 0 → P u)
    (more : ∀ u : Word, u.toNat / 32 ≠ 0 → P (restOf u) → P u) (u : Word) : P u :=
  if h : u.toNat / 32 = 0 then last u h else more u h (digits_induction last more (restOf u))
termination_by u.toNat
decreasing_by rw [toNat_restOf]; omega

/-- The digits of a word that fits at the present shift add the whole word and end the group. -/
theorem foldl_stepChar_digits (u : Word) (d : DS) (hd : d.fail = false) (hfit : u.toNat * 2 ^ d.shift.toNat < 2 ^ 32) :
    ((digits u).map alphaDigit).foldl stepChar d =
      atStart (d.res ++ [zzInv (BitVec.ofNat 32 (d.value.toNat + u.toNat * 2 ^ d.shift.toNat))]) := by
  induction u using digits_induction generalizing d with
  | last u h =>
    have hacc := acc_lowDigit d.value u d.shift
    rw [h, Nat.zero_mul, Nat.add_zero, BitVec.ofNat_toNat, BitVec.setWidth_eq] at hacc
    rw [digits_of_div_eq_zero h, nextDigit_eq, decide_eq_false (not_not.mpr h), List.map_singleton, List.foldl_cons,
      List.foldl_nil, stepChar_terminatingDigit _ hd, hacc]
  | more u h ih =>
    have hshift := toNat_nextShift h hfit
    rw [digits_of_div_ne_zero h, nextDigit_eq, decide_eq_true h, List.map_cons, List.foldl_cons,
      stepChar_continuationDigit _ hd, ih]
    · simp only [hshift, toNat_restOf, acc_lowDigit]
    · exact hd
    · simpa only [hshift] using restOf_fits hfit

/-! ## Integers and sequences -/

theorem foldl_stepChar_encodeGroup (n : Word) (ws : List Word) :
    (encodeGroup n).foldl stepChar (atStart ws) = atStart (ws ++ [n]) := by
  have hfit : (zz n).toNat * 2 ^ (0#6).toNat < 2 ^ 32 := by simpa using (zz n).isLt
  rw [encodeGroup, foldl_stepChar_digits (zz n) (atStart ws) rfl hfit]
  simp [atStart, zzInv_zz]

theorem foldl_stepChar_encodeInts (ns ws : List Word) :
    (encodeInts ns).foldl stepChar (atStart ws) = atStart (ws ++ ns) := by
  induction ns generalizing ws with
  | nil => rw [encodeInts, List.foldl_nil, List.append_nil]
  | cons n ns ih => rw [encodeInts, List.foldl_append, foldl_stepChar_encodeGroup, ih, List.append_assoc, List.singleton_append]

/-- Settles O39: each group of the encoder takes the decoder from the start of a group to the next one, with its integer emitted. -/
theorem decodeOfEncode : Obligations.DecodeOfEncode := fun ns => by
  rw [decodeStr, ds0_eq_atStart, foldl_stepChar_encodeInts, finish_atStart, List.nil_append]

end Sys2Proof.Proofs.RoundTrip

/-! When `Decode` gives nothing (42_codec_laws.md R99): the failure flag remembers a character outside the alphabet, and the shift tells
whether the last character left a group open. -/

namespace Sys2Proof.Proofs.DecodeFailure

open Sys2Proof Sys2Proof.Machine Sys2Proof.Proofs.CharSteps

theorem finish_eq_none_iff (d : DS) : finish d = none ↔ d.fail = true ∨ d.shift ≠ 0#6 := by
  cases hd : d.fail <;> simp [finish, hd]

theorem stepChar_fail_iff (d : DS) (c : CharCode) :
    (stepChar d c).fail = true ↔ d.fail = true ∨ (inv c).valid = false := by
  cases hd : d.fail with
  | true => simp [stepChar_failed c hd, hd]
  | false =>
    cases hc : (inv c).valid with
    | false => simp [stepChar_bad hd (lookup_of_invalid hc)]
    | true =>
      cases hv : contOf (inv c).val with
      | true => simp [stepChar_continues hd (lookup_of_valid hc) hv, hd]
      | false => simp [stepChar_ends hd (lookup_of_valid hc) hv, atStart]

theorem foldl_stepChar_fail_iff (cs : List CharCode) (d : DS) :
    (cs.foldl stepChar d).fail = true ↔ d.fail = true ∨ ∃ c ∈ cs, (inv c).valid = false := by
  induction cs generalizing d with
  | nil => simp
  | cons c cs ih => simp [ih, stepChar_fail_iff, or_assoc]

theorem nextShift_ne_zero (shift : BitVec 6) : nextShift shift ≠ 0#6 := fun h => by
  have hnat := congrArg BitVec.toNat h
  simp only [nextShift, Config.payloadBits, Config.shiftSat, BitVec.toNat_ofNat] at hnat
  omega

/-- In a string that has not failed, a character leaves its group open exactly when it is a continuation digit's. -/
theorem stepChar_shift_ne_zero_iff {d : DS} {c : CharCode} (hd : d.fail = false) (hc : (inv c).valid = true) :
    (stepChar d c).shift ≠ 0#6 ↔ 32 ≤ (inv c).val.toNat ∧ (inv c).val.toNat ≤ 63 := by
  rw [← contOf_inv_iff hc]
  cases hv : contOf (inv c).val with
  | true => simp [stepChar_continues hd (lookup_of_valid hc) hv, nextShift_ne_zero]
  | false => simp [stepChar_ends hd (lookup_of_valid hc) hv, atStart]

/-- Settles O41: with a character outside the alphabet both sides hold; without one, the last character decides. -/
theorem decodeFailsExactlyWhen : Obligations.DecodeFailsExactlyWhen := fun cs => by
  rw [decodeStr, finish_eq_none_iff, foldl_stepChar_fail_iff]
  by_cases hbad : ∃ c ∈ cs, (inv c).valid = false
  · exact iff_of_true (.inl (.inr hbad)) (.inl hbad)
  · obtain rfl | ⟨init, c, rfl⟩ := cs.eq_nil_or_concat'
    · simp [ds0]
    · have hc : (inv c).valid = true := by
        by_contra hinv
        exact hbad ⟨c, by simp, Bool.not_eq_true _ ▸ hinv⟩
      have hinit : (init.foldl stepChar ds0).fail = false := by
        rw [← Bool.not_eq_true, foldl_stepChar_fail_iff]
        rintro (hstart | ⟨b, hb, hinv⟩)
        · exact Bool.false_ne_true hstart
        · exact hbad ⟨b, List.mem_append_left _ hb, hinv⟩
      rw [List.foldl_concat, stepChar_shift_ne_zero_iff hinit hc]
      simp [hc, ds0]

end Sys2Proof.Proofs.DecodeFailure

/-! The laws of 42_codec_laws.md that follow from those above: the zig-zag bijection (R94), the single form of the encoder (R98) and
the sequences of zeros (R102). -/

namespace Sys2Proof.Proofs.CodecLaws

open Sys2Proof Sys2Proof.Machine Sys2Proof.Proofs.Zigzag Sys2Proof.Proofs.ZigzagInverse Sys2Proof.Proofs.RoundTrip

/-- Settles O36: the two maps undo each other, and the table is the arms of `ZZ` over the integers. -/
theorem zigzagIsBijection : Obligations.ZigzagIsBijection := by
  refine ⟨zzInv_zz, zz_zzInv, rfl, zz_minInt, fun n hpos => ?pos, fun n hneg hmin => ?neg⟩
  case pos => exact toNat_zz_of_nonneg (by omega)
  case neg =>
    have hne : n ≠ Config.minInt := fun h => by
      have hint := eq_minInt_iff.mp h
      omega
    rw [toNat_zz_of_neg (by omega) hne, Int.mul_neg, Int.neg_mul]

theorem encodeInts_replicate_zero (k : Nat) : encodeInts (List.replicate k 0#32) = List.replicate k 0x41#8 := by
  induction k with
  | zero => rfl
  | succ k ih =>
    have hgroup : encodeGroup 0#32 = [0x41#8] := rfl
    rw [List.replicate_succ, encodeInts, ih, hgroup, List.singleton_append, List.replicate_succ]

/-- Settles O42: the encoder by induction on the number of zeros, the decoder by the round trip. -/
theorem zerosAreAs : Obligations.ZerosAreAs := fun k =>
  ⟨encodeInts_replicate_zero k, by rw [← encodeInts_replicate_zero, decodeOfEncode]⟩

theorem encodeInts_singleton (n : Word) : encodeInts [n] = encodeGroup n :=
  List.append_nil (encodeGroup n)

theorem exec_encWord (n : Word) (s : State) : exec (.encWord n) s = .next (runWord n s) := rfl

theorem exec_encode (ns : List Word) (s : State) :
    exec (.encode ns) s = .next (ns.foldl (fun t n => runWord n t) s) := rfl

theorem exec_encode1 (n : Word) (s : State) : exec (.encode1 n) s = .next (runWord n s) := rfl

/-- Settles O40: a list of one has one group, and its run is one `ENC.WORD`. -/
theorem singleEncodesAsList : Obligations.SingleEncodesAsList := fun n => by
  refine ⟨(encodeInts_singleton n).symm, fun s => ⟨?single, ?list⟩⟩
  case single => rw [exec_encode1, exec_encWord]
  case list => rw [exec_encode, exec_encWord, List.foldl_cons, List.foldl_nil]

end Sys2Proof.Proofs.CodecLaws

/-! `BadChar` (60_exceptions.md R108): a character outside the alphabet emits nothing, so DEC takes it whether or not the host takes
words, and what its step does is to raise the failure. -/

namespace Sys2Proof.Proofs.BadCharacter

open Sys2Proof Sys2Proof.Machine Sys2Proof.Laws Sys2Proof.Proofs.CharSteps

/-! ## The two rows that name the character -/

theorem exec_decChar (c : CharCode) (s : State) : exec (.decChar c) s = .next (offerChar c s) := rfl

theorem exec_decCharOutside (c : CharCode) (s : State) : exec (.decCharOutside c) s = .next (offerChar c s) := rfl

/-! ## A character that the lookup does not find -/

theorem emission_of_lookup_eq_none {c : CharCode} (hc : lookup c = none) (s : State) : emission false c s = none := by
  simp [emission, charEmission, hc]

/-- A character that emits nothing waits for nobody (20_memory.md R35). -/
theorem decTakes_of_emission_eq_none {eos : Bool} {c : CharCode} {s : State} (hout : emission eos c s = none)
    (hrst : s.pins.rst = false) : decTakes eos c s = true := by
  simp [decTakes, hout, hrst]

theorem offerChar_of_decTakes {c : CharCode} {s : State} (htakes : decTakes false c s = true) :
    offerChar c s = takeChar c s :=
  if_pos htakes

theorem offerChar_bad {c : CharCode} {s : State} (hc : lookup c = none) (hfail : s.decFail = false)
    (hrst : s.pins.rst = false) : offerChar c s = raiseBadChar s := by
  have htakes : decTakes false c s = true := decTakes_of_emission_eq_none (emission_of_lookup_eq_none hc s) hrst
  rw [offerChar_of_decTakes htakes, takeChar_bad c s hfail hc]

/-- Settles O24: both rows offer the character to DEC, which takes it and raises `BadChar`. -/
theorem badCharacterFails : Obligations.BadCharacterFails := fun c s hinv hfail hrst => by
  have hoffer : offerChar c s = { s with decFail := true } := offerChar_bad (lookup_of_invalid hinv) hfail hrst
  rw [exec_decChar, exec_decCharOutside, hoffer]
  exact ⟨rfl, rfl⟩

end Sys2Proof.Proofs.BadCharacter

/-! The decoder and the token formats undo each other (30_encoding.md R49 to R54). On the side of the instructions, the family
`TokensDecodeBack` says that the tokens of an instruction decode to its expansion, and an instruction with a token of its own expands to
itself; on the side of the tokens, each stream has its own fields. -/

namespace Sys2Proof.Proofs.TokenRoundTrip

open Sys2Proof Sys2Proof.Machine Sys2Proof.Laws

/-! ## From an instruction to its token and back -/

/-- Without an operand, an instruction is one of the 65 rows that fix a character, or `ENC.EMIT`: one token or none, known outright. -/
theorem tokensDecodeBack (i : Instr) : TokensDecodeBack.Statement i := by
  cases i with
  | encWord n => exact TokensDecodeBack.encWord n
  | encAccept n => exact TokensDecodeBack.encAccept n
  | decChar c => exact TokensDecodeBack.decChar c
  | decEos c => exact TokensDecodeBack.decEos c
  | decCharOutside c => exact TokensDecodeBack.decCharOutside c
  | charToken last c => exact TokensDecodeBack.charToken last c
  | wordToken d => exact TokensDecodeBack.wordToken d
  | doneToken ok => exact TokensDecodeBack.doneToken ok
  | encode ns => exact TokensDecodeBack.encode ns
  | encode1 n => exact TokensDecodeBack.encode1 n
  | decode cs => exact TokensDecodeBack.decode cs
  | _ => exact fun _ => rfl

theorem expansion_of_hasOwnToken {i : Instr} (h : i.hasOwnToken = true) : i.expansion = [i] := by
  cases i with
  | decChar c =>
    have hc : (inv c).valid = false := by simpa [Instr.hasOwnToken] using h
    rw [Instr.expansion, decodeChar_outside c hc]
  | encAccept | encEmit | decCharOutside | encode | encode1 | decode => exact absurd h Bool.false_ne_true
  | _ => rfl

/-- Settles O4: the one operation in the expansion is the instruction, so it has one token, which decodes to it. -/
theorem decodeUndoesEncode : Obligations.DecodeUndoesEncode := fun i hwf hown => by
  have hback : (encodeInstr i).map decodeToken = [.ok i] := by
    rw [tokensDecodeBack i hwf, expansion_of_hasOwnToken hown, List.map_singleton]
  exact List.map_eq_singleton_iff.mp hback

/-! ## From a token to its instruction and back -/

/-- What the decoder is to answer for a token: an instruction of the table with this token for its own. -/
def IsRowOf (t : Token) (i : Instr) : Prop :=
  i.wellFormed = true ∧ i.hasOwnToken = true ∧ encodeInstr i = [t]

theorem charForms_wellFormed_hasOwnToken : ∀ p ∈ charForms, p.2.wellFormed = true ∧ p.2.hasOwnToken = true := by decide

theorem isRowOf_decodeChar (c : CharCode) : IsRowOf (.decIn (decInBits false c)) (decodeChar c) := by
  cases hrow : charForms.lookup c with
  | none =>
    have hc : (inv c).valid = false := by simpa [hrow] using charForms_none c
    rw [decodeChar_outside c hc]
    exact ⟨rfl, by simp [Instr.hasOwnToken, hc], rfl⟩
  | some i =>
    obtain ⟨before, after, hsplit, -⟩ := List.lookup_eq_some_iff.mp hrow
    have hmem : (c, i) ∈ charForms := by simp [hsplit]
    obtain ⟨hwf, hown⟩ := charForms_wellFormed_hasOwnToken (c, i) hmem
    rw [decodeChar, hrow, Option.getD_some]
    exact ⟨hwf, hown, charForms_encode (c, i) hmem⟩

theorem isRowOf_decodeDecIn (t : BitVec 9) : IsRowOf (.decIn t) (decodeDecIn t) := by
  rw [← decInBits_fields t]
  cases decInEosOf t with
  | true => rw [decodeDecIn_eos]; exact ⟨rfl, rfl, rfl⟩
  | false => rw [decodeDecIn_char]; exact isRowOf_decodeChar _

/-- An `ENC_OUT` token is its two fields. -/
theorem encOut_bits_fields (t : BitVec 9) : EncOut.bits ⟨t.getLsbD 8, t.extractLsb' 0 8⟩ = t :=
  decInBits_fields t

theorem isRowOf_of_decodeEncOut {t : BitVec 9} {i : Instr} (h : decodeEncOut t = .ok i) : IsRowOf (.encOut t) i := by
  simp only [decodeEncOut] at h
  split at h
  case isTrue hlegal =>
    cases h
    exact ⟨hlegal, rfl, by rw [encodeInstr, encOut_bits_fields]⟩
  case isFalse => cases h

/-- A `DEC_OUT` token with bit 32 clear is the word below it. -/
theorem word_bits_fields {t : BitVec 33} (hdone : t.getLsbD 32 = false) : DecOut.bits (.word (t.extractLsb' 0 32)) = t := by
  apply BitVec.eq_of_getLsbD_eq
  intro k hk
  change (0#1 ++ t.extractLsb' 0 32 : BitVec (1 + 32)).getLsbD k = t.getLsbD k
  rw [BitVec.getLsbD_append, BitVec.getLsbD_extractLsb']
  by_cases hlow : k < 32
  · simp [hlow]
  · obtain rfl : k = 32 := by omega
    rw [hdone]
    simp

/-- A `DEC_OUT` token with bit 32 set and bits 31:1 clear is the verdict in bit 0. -/
theorem done_bits_fields {t : BitVec 33} (hdone : t.getLsbD 32 = true) (hzero : t.extractLsb' 1 31 = 0#31) :
    DecOut.bits (.done (t.getLsbD 0)) = t := by
  apply BitVec.eq_of_getLsbD_eq
  intro k hk
  change (1#1 ++ (0#31 ++ BitVec.ofBool (t.getLsbD 0)) : BitVec (1 + (31 + 1))).getLsbD k = t.getLsbD k
  rw [BitVec.getLsbD_append, BitVec.getLsbD_append]
  have hk' : k = 0 ∨ (1 ≤ k ∧ k < 32) ∨ k = 32 := by omega
  obtain rfl | ⟨hlo, hhi⟩ | rfl := hk'
  · simp
  · have hsub : k - 1 < 31 := by omega
    have hlow : ¬ k < 1 := by omega
    have hbit : (t.extractLsb' 1 31).getLsbD (k - 1) = t.getLsbD k := by
      rw [BitVec.getLsbD_extractLsb', Nat.add_sub_cancel' hlo, decide_eq_true hsub, Bool.true_and]
    rw [← hbit, hzero]
    simp [hhi, hlow]
  · simp [hdone]

theorem isRowOf_of_decodeDecOut {t : BitVec 33} {i : Instr} (h : decodeDecOut t = .ok i) : IsRowOf (.decOut t) i := by
  unfold decodeDecOut at h
  split_ifs at h with hdone hzero
  · cases h
    exact ⟨rfl, rfl, by rw [encodeInstr, done_bits_fields hdone hzero]⟩
  · cases h
    exact ⟨rfl, rfl, by rw [encodeInstr, word_bits_fields (Bool.eq_false_iff.mpr hdone)]⟩

theorem isRowOf_of_decodeToken {t : Token} {i : Instr} (h : decodeToken t = .ok i) : IsRowOf t i := by
  cases t with
  | encIn n => cases h; exact ⟨rfl, rfl, rfl⟩
  | decIn b => cases h; exact isRowOf_decodeDecIn b
  | encOut b => exact isRowOf_of_decodeEncOut h
  | decOut b => exact isRowOf_of_decodeDecOut h

/-- Settles O5: the row of a token, stream by stream; of the input streams every token has one. -/
theorem encodeUndoesDecode : Obligations.EncodeUndoesDecode :=
  ⟨fun _ _ h => isRowOf_of_decodeToken h, fun n => ⟨.encWord n, rfl⟩, fun b => ⟨decodeDecIn b, rfl⟩⟩

/-! ## Tokens and classes written out -/

/-- Settles O3: each token is evaluated. -/
theorem writtenTokensDecode : Obligations.WrittenTokensDecode := by
  refine ⟨rfl, rfl, rfl, rfl, rfl, rfl, rfl, rfl, rfl, rfl, rfl⟩

/-- The 256 codes as four runs of 64. -/
theorem countP_range_256 (p : Nat → Bool) :
    (List.range 256).countP p = (List.range 64).countP p + (List.range 64).countP (fun c => p (64 + c)) +
      (List.range 64).countP (fun c => p (128 + c)) + (List.range 64).countP fun c => p (192 + c) := by
  rw [show 256 = 64 + 64 + 64 + 64 from rfl, List.range_add, List.range_add, List.range_add]
  simp only [List.countP_append, List.countP_map]
  rfl

/-- Settles O2: the four counts are evaluated, run by run. -/
theorem operandClassesCount : Obligations.OperandClassesCount := by
  simp only [Obligations.OperandClassesCount, countP_range_256]
  decide

end Sys2Proof.Proofs.TokenRoundTrip

/-! Facts about the digit packer (40_encoder.md R67 to R70) that go from a word to the rest of it: the length of a group, its
continuation bits, and its characters. -/

namespace Sys2Proof.Proofs.GroupDigits

open Sys2Proof Sys2Proof.Machine Sys2Proof.Proofs.Roms Sys2Proof.Proofs.Zigzag Sys2Proof.Proofs.Digits
  Sys2Proof.Proofs.RoundTrip

/-! ## The length of a group -/

theorem length_digits (u : Word) : (digits u).length = groupLen u := by
  rw [digits_eq_closedDigits, closedDigits, List.length_map, List.length_range]

theorem groupLen_eq_size (u : Word) : groupLen u = max 1 ((u.toNat.size + 4) / 5) := by
  have hsize : u.toNat.size ≤ 32 := Nat.size_le.mpr u.isLt
  simp only [groupLen, ← Nat.size_le]
  split_ifs <;> omega

/-- The zig-zag word of an integer other than `MININT`, up to its sign bit. -/
theorem toNat_zz_div_two {n : Word} (hmin : n ≠ Config.minInt) : (zz n).toNat / 2 = n.toInt.natAbs := by
  obtain hnonneg | hneg := le_or_gt 0 n.toInt
  · have hzz := toNat_zz_of_nonneg hnonneg
    omega
  · have hzz := toNat_zz_of_neg hneg hmin
    omega

theorem groupLen_zz (n : Word) : groupLen (zz n) =
    if n.toInt.natAbs ≤ 15 ∨ n = Config.minInt then 1
    else if n.toInt.natAbs ≤ 511 then 2
    else if n.toInt.natAbs ≤ 16383 then 3
    else if n.toInt.natAbs ≤ 524287 then 4
    else if n.toInt.natAbs ≤ 16777215 then 5
    else if n.toInt.natAbs ≤ 536870911 then 6
    else 7 := by
  by_cases hmin : n = Config.minInt
  · rw [if_pos (.inr hmin), hmin, zz_minInt]
    rfl
  · have hhalf := toNat_zz_div_two hmin
    simp only [groupLen, hmin, or_false]
    congr 1
    · exact propext (by omega)
    split_ifs <;> omega

/-- The last of the digits is the one at position `GroupLen - 1` of the closed form. -/
theorem getLast?_digits (u : Word) :
    (digits u).getLast? = some (mkDigit false (BitVec.ofNat 5 (u.toNat / 2 ^ (5 * (groupLen u - 1))))) := by
  obtain ⟨k, hk⟩ := Nat.exists_eq_succ_of_ne_zero (groupLen_pos u).ne'
  rw [digits_eq_closedDigits, closedDigits, hk, List.range_succ, List.map_append, List.map_singleton,
    List.getLast?_concat, closedDigit, hk, Nat.succ_sub_one, decide_eq_false (lt_irrefl k)]

/-- Settles O11: the length from the bit length and from the integer, its bound, and the last digit of the longest group. -/
theorem groupLengths : Obligations.GroupLengths := by
  refine ⟨fun u => ⟨length_digits u, groupLen_eq_size u⟩, groupLen_zz, groupLen_le_maxGroup, fun u hseven => ⟨?last, ?bound⟩⟩
  case last => rw [getLast?_digits, hseven]
  case bound => omega

/-! ## The continuation bits and the characters -/

theorem getLsbD_five_mkDigit (more : Bool) (p : Payload) : (mkDigit more p).getLsbD 5 = more := by
  rw [mkDigit, BitVec.getLsbD_append]
  simp

theorem extractLsb'_mkDigit (more : Bool) (p : Payload) : (mkDigit more p).extractLsb' 0 5 = p := by
  apply BitVec.eq_of_toNat_eq
  rw [BitVec.extractLsb'_toNat, toNat_mkDigit, Nat.shiftRight_zero]
  omega

theorem digits_ne_nil (u : Word) : digits u ≠ [] := fun h => by
  have hlen := length_digits u
  rw [h, List.length_nil] at hlen
  exact absurd (groupLen_pos u) (by omega)

/-- All digits but the last have the continuation bit. -/
theorem continuationBits_digits (u : Word) :
    (digits u).map (fun d => d.getLsbD 5) = List.replicate ((digits u).length - 1) true ++ [false] := by
  induction u using digits_induction with
  | last u h =>
    rw [digits_of_div_eq_zero h, nextDigit_eq, decide_eq_false (not_not.mpr h), List.map_singleton, getLsbD_five_mkDigit]
    rfl
  | more u h ih =>
    obtain ⟨k, hk⟩ := Nat.exists_eq_succ_of_ne_zero (List.length_pos_iff.mpr (digits_ne_nil (restOf u))).ne'
    rw [digits_of_div_ne_zero h, nextDigit_eq, decide_eq_true h, List.map_cons, getLsbD_five_mkDigit, ih, List.length_cons,
      hk, Nat.succ_sub_one, Nat.succ_sub_one, List.replicate_succ, List.cons_append]

theorem inv_alphaDigit (d : Digit) : inv (alphaDigit d) = ⟨true, BitVec.ofNat 7 d.toNat⟩ :=
  inv_alpha _

theorem toNat_symbol_digit (d : Digit) : (BitVec.ofNat 7 d.toNat).toNat = d.toNat := by
  rw [BitVec.toNat_ofNat]
  omega

/-- Settles O12: the characters are those of digits, whose symbol values are the digits; `=` has symbol value 64. -/
theorem encoderNeverEmitsEquals : Obligations.EncoderNeverEmitsEquals := fun n c hc => by
  obtain ⟨d, -, rfl⟩ := List.mem_map.mp hc
  have hval : (inv (alphaDigit d)).val.toNat ≤ 63 := by
    rw [inv_alphaDigit, toNat_symbol_digit]
    omega
  refine ⟨by rw [inv_alphaDigit], hval, fun heq => ?_⟩
  rw [heq] at hval
  exact absurd hval (by decide)

end Sys2Proof.Proofs.GroupDigits

/-! The encoder's operations (40_encoder.md R73 to R76). What ENC still holds is the digits of `ENC.U`; each `ENC.EMIT` sends the first
of them, and with a host that takes characters all of them go out. -/

namespace Sys2Proof.Proofs.EncoderOps

open Sys2Proof Sys2Proof.Machine Sys2Proof.Laws Sys2Proof.Proofs.Digits Sys2Proof.Proofs.RoundTrip
  Sys2Proof.Proofs.GroupDigits Sys2Proof.Proofs.CodecLaws

/-! ## The instructions as operations -/

theorem exec_encAccept (n : Word) (s : State) : exec (.encAccept n) s = .next (offerWord n s) := rfl

theorem exec_encEmit (s : State) : exec .encEmit s = .next (tryEmit s) := rfl

theorem exec_charToken (last : Bool) (c : CharCode) (s : State) :
    exec (.charToken last c) s = .next (crossEncOut ⟨last, c⟩ s) := rfl

/-! ## When a step of ENC happens -/

theorem emitEnabled_of_busy {s : State} (hbusy : s.encBusy = true) (hhost : hostTakesChars s) : emitEnabled s = true :=
  (emitEnabled_iff s).mpr ⟨hbusy, hhost⟩

theorem emitEnabled_eq_false {s : State} (h : s.encBusy = false ∨ s.pins.encOutReady = false ∨ s.pins.rst = true) :
    emitEnabled s = false := by
  rw [Bool.eq_false_iff, Ne, emitEnabled_iff]
  rintro ⟨hbusy, hrst, hready⟩
  simp [hbusy, hrst, hready] at h

theorem tryEmit_enabled {s : State} (h : emitEnabled s = true) : tryEmit s = emitDigit s := if_pos h

theorem tryEmit_disabled {s : State} (h : emitEnabled s = false) : tryEmit s = s := if_neg (by simp [h])

theorem offerWord_idle {s : State} (n : Word) (hidle : s.encBusy = false) (hrst : s.pins.rst = false) :
    offerWord n s = acceptWord n s :=
  if_pos ((encInReady_iff s).mpr ⟨hidle, hrst⟩)

theorem offerWord_waits {s : State} (n : Word) (h : s.encBusy = true ∨ s.pins.rst = true) : offerWord n s = s := by
  refine if_neg fun hready => ?_
  obtain ⟨hidle, hrst⟩ := (encInReady_iff s).mp hready
  simp [hidle, hrst] at h

/-- Settles O15: an idle ENC takes the token, a busy one does not, and neither does one in reset. -/
theorem encAcceptLoadsZigzag : Obligations.EncAcceptLoadsZigzag := by
  refine ⟨fun n s hidle hrst => ?idle, fun n s h => ?waits⟩
  case idle => rw [exec_encAccept, offerWord_idle n hidle hrst]; rfl
  case waits => rw [exec_encAccept, offerWord_waits n h]

/-! ## One digit -/

theorem moreAfter_eq_decide_le (u : Word) : moreAfter u = decide (32 ≤ u.toNat) := by
  rw [moreAfter_eq_decide]
  exact decide_eq_decide.mpr (by omega)

theorem nextDigit_eq_ofNat (u : Word) :
    nextDigit u = BitVec.ofNat 6 (u.toNat % 32 + if 32 ≤ u.toNat then 32 else 0) := by
  apply BitVec.eq_of_toNat_eq
  rw [nextDigit_eq, toNat_mkDigit, BitVec.toNat_ofNat, BitVec.toNat_ofNat]
  by_cases h : 32 ≤ u.toNat
  · have hmore : u.toNat / 32 ≠ 0 := by omega
    simp only [hmore, h, ne_eq, not_false_eq_true, decide_true, Bool.toNat_true, if_true]
    omega
  · have hlast : u.toNat / 32 = 0 := by omega
    simp only [hlast, h, ne_eq, not_true_eq_false, decide_false, Bool.toNat_false, if_false]
    omega

/-- The token on the `ENC_OUT` wires is that of the next digit of `ENC.U`. -/
theorem encOutToken_eq_digitToken (s : State) : encOutToken s = digitToken (nextDigit s.encU) := by
  rw [digitToken, nextDigit, getLsbD_five_mkDigit]
  rfl

/-- The token on the `ENC_OUT` wires, by the arithmetic of R75. -/
theorem encOutToken_eq (s : State) :
    encOutToken s = ⟨decide (s.encU.toNat < 32),
      alphaDigit (BitVec.ofNat 6 (s.encU.toNat % 32 + if 32 ≤ s.encU.toNat then 32 else 0))⟩ := by
  rw [encOutToken, nextDigit_eq_ofNat, moreAfter_eq_decide_le, ← decide_not]
  simp only [not_le]

/-- The body of `ENC.EMIT`, by the arithmetic of R75. -/
theorem emitDigit_eq (s : State) :
    emitDigit s = { s with
      encU := BitVec.ofNat 32 (s.encU.toNat / 32)
      encBusy := decide (32 ≤ s.encU.toNat)
      encTrace := s.encTrace ++ [⟨decide (s.encU.toNat < 32),
        alphaDigit (BitVec.ofNat 6 (s.encU.toNat % 32 + if 32 ≤ s.encU.toNat then 32 else 0))⟩] } := by
  rw [← restOf_eq_ofNat, ← moreAfter_eq_decide_le, ← encOutToken_eq]
  rfl

/-- Settles O16: enabled, the step is the body, by its arithmetic; otherwise nothing happens. -/
theorem encEmitSendsOneDigit : Obligations.EncEmitSendsOneDigit := by
  refine ⟨fun s hbusy hhost => ?sends, fun s h => ?waits⟩
  case sends => rw [exec_encEmit, tryEmit_enabled (emitEnabled_of_busy hbusy hhost), emitDigit_eq]
  case waits => rw [exec_encEmit, tryEmit_disabled (emitEnabled_eq_false h)]

theorem crossEncOut_offered {s : State} {t : EncOut} (henabled : emitEnabled s = true) (ht : encOutToken s = t) :
    crossEncOut t s = emitDigit s := by
  simp [crossEncOut, henabled, ht]

theorem crossEncOut_other {s : State} {t : EncOut} (h : emitEnabled s = false ∨ encOutToken s ≠ t) : crossEncOut t s = s := by
  obtain h | h := h <;> simp [crossEncOut, h]

/-- Settles O18: the token of the row is the one that `ENC.EMIT` offers, or it is not transferred. -/
theorem charTokenCrosses : Obligations.CharTokenCrosses := by
  refine ⟨fun s hbusy hhost => ?crosses, fun last c s h => ?stays⟩
  case crosses =>
    rw [exec_charToken, crossEncOut_offered (emitEnabled_of_busy hbusy hhost) (encOutToken_eq s), emitDigit_eq]
  case stays => rw [exec_charToken, crossEncOut_other h]

/-! ## All the digits ENC holds -/

/-- ENC after it has sent everything it held. -/
def allSent (s : State) : State :=
  { s with encU := 0#32, encBusy := false, encTrace := s.encTrace ++ (digits s.encU).map digitToken }

theorem allSent_of_last {s : State} (h : s.encU.toNat / 32 = 0) : emitDigit s = allSent s := by
  have hrest : restOf s.encU = 0#32 := by rw [restOf_eq_ofNat, h]
  have hbusy : busyAfterEmit s = false := by rw [busyAfterEmit, moreAfter_eq_decide, h]; rfl
  rw [emitDigit, hrest, hbusy, allSent, digits_of_div_eq_zero h, List.map_singleton, encOutToken_eq_digitToken]
  rfl

theorem allSent_of_more {s : State} (h : s.encU.toNat / 32 ≠ 0) : allSent (emitDigit s) = allSent s := by
  simp only [allSent, emitDigit_encTrace, emitDigit_encU, digits_of_div_ne_zero h, List.map_cons,
    encOutToken_eq_digitToken, List.append_assoc, List.singleton_append]
  rfl

/-- A busy ENC with a host that takes characters sends all it holds, when it is let run long enough. -/
theorem emitUpTo_busy (k : Nat) {s : State} (hbusy : s.encBusy = true) (hhost : hostTakesChars s)
    (hk : groupLen s.encU ≤ k) : emitUpTo k s = allSent s := by
  induction k generalizing s with
  | zero => exact absurd (groupLen_pos s.encU) (by omega)
  | succ k ih =>
    rw [emitUpTo_enabled k s (emitEnabled_of_busy hbusy hhost)]
    by_cases h : s.encU.toNat / 32 = 0
    · rw [allSent_of_last h]
      exact emitUpTo_disabled k _ (emitEnabled_eq_false (.inl rfl))
    · rw [groupLen_of_div_ne_zero h] at hk
      have hmore : (emitDigit s).encBusy = true := by rw [emitDigit_encBusy, moreAfter_eq_decide, decide_eq_true h]
      rw [ih hmore hhost (Nat.le_of_succ_le_succ hk), allSent_of_more h]

theorem drain_busy {s : State} (hbusy : s.encBusy = true) (hhost : hostTakesChars s) : drain s = allSent s :=
  emitUpTo_busy Config.maxGroup hbusy hhost (groupLen_le_maxGroup s.encU)

theorem drain_disabled {s : State} (h : s.encBusy = false ∨ s.pins.encOutReady = false ∨ s.pins.rst = true) : drain s = s :=
  emitUpTo_disabled Config.maxGroup s (emitEnabled_eq_false h)

/-! ## `ENC.WORD` -/

/-- From an idle ENC, the whole group of the integer goes out. -/
theorem runWord_idle (n : Word) {s : State} (hidle : s.encBusy = false) (hhost : hostTakesChars s) :
    runWord n s = { s with encU := 0#32, encBusy := false, encTrace := s.encTrace ++ groupTokens n } := by
  rw [runWord, drain_disabled (.inl hidle), offerWord_idle n hidle hhost.1, drain_busy (s := acceptWord n s) rfl hhost]
  rfl

theorem map_char_groupTokens (n : Word) : (groupTokens n).map EncOut.char = encodeGroup n := by
  rw [groupTokens, List.map_map]
  rfl

theorem map_last_digitToken (ds : List Digit) :
    (ds.map digitToken).map EncOut.last = (ds.map fun d => d.getLsbD 5).map not := by
  rw [List.map_map, List.map_map]
  rfl

theorem length_groupTokens (n : Word) : (groupTokens n).length = groupLen (zz n) := by
  rw [groupTokens, List.length_map, length_digits]

/-- Of a group's tokens the last one alone is marked. -/
theorem map_last_groupTokens (n : Word) :
    (groupTokens n).map EncOut.last = List.replicate ((groupTokens n).length - 1) false ++ [true] := by
  rw [length_groupTokens, groupTokens, map_last_digitToken, continuationBits_digits, length_digits, List.map_append,
    List.map_replicate, List.map_singleton]
  rfl

/-- Settles O13: the tokens are those of the group. -/
theorem encWordEmitsItsGroup : Obligations.EncWordEmitsItsGroup := fun n s hidle hhost =>
  ⟨groupTokens n, by rw [exec_encWord, runWord_idle n hidle hhost], map_char_groupTokens n, map_last_groupTokens n,
    length_groupTokens n⟩

/-- Settles O14: what is left of the group in progress goes out first, as far as the host and the wire `rst` let it. -/
theorem encWordWaits : Obligations.EncWordWaits := by
  refine ⟨fun n s hbusy hhost => ?busy, fun n s hidle hrst hready => ?loads, fun n s hbusy hready => ?stuck,
    fun n s hrst => ?reset⟩
  case busy =>
    have hidle : (allSent s).encBusy = false := rfl
    have hrun : runWord n s = runWord n (allSent s) := by
      rw [runWord, drain_busy hbusy hhost, runWord, drain_disabled (.inl hidle)]
    rw [exec_encWord, hrun, runWord_idle n hidle hhost]
    rfl
  case loads =>
    have hready' : (acceptWord n s).pins.encOutReady = false := hready
    rw [exec_encWord, runWord, drain_disabled (.inl hidle), offerWord_idle n hidle hrst, drain_disabled (.inr (.inl hready'))]
    rfl
  case stuck =>
    rw [exec_encWord, runWord, drain_disabled (.inr (.inl hready)), offerWord_waits n (.inl hbusy),
      drain_disabled (.inr (.inl hready))]
  case reset =>
    rw [exec_encWord, runWord, drain_disabled (.inr (.inr hrst)), offerWord_waits n (.inr hrst),
      drain_disabled (.inr (.inr hrst))]

/-! ## `ENCODE` -/

theorem runWord_encIdle (n : Word) {s : State} (hidle : encIdle s) (hhost : hostTakesChars s) :
    runWord n s = { s with encTrace := s.encTrace ++ groupTokens n } := by
  obtain ⟨hbusy, hword⟩ := hidle
  rw [runWord_idle n hbusy hhost, ← hbusy, ← hword]

theorem foldl_runWord (ns : List Word) {s : State} (hidle : encIdle s) (hhost : hostTakesChars s) :
    ns.foldl (fun t n => runWord n t) s = { s with encTrace := s.encTrace ++ ns.flatMap groupTokens } := by
  induction ns generalizing s with
  | nil => rw [List.foldl_nil, List.flatMap_nil, List.append_nil]
  | cons n ns ih =>
    have hnext : encIdle { s with encTrace := s.encTrace ++ groupTokens n } := hidle
    rw [List.foldl_cons, runWord_encIdle n hidle hhost, ih hnext hhost, List.flatMap_cons, ← List.append_assoc]

theorem map_char_flatMap_groupTokens (ns : List Word) : (ns.flatMap groupTokens).map EncOut.char = encodeInts ns := by
  induction ns with
  | nil => rfl
  | cons n ns ih => rw [List.flatMap_cons, List.map_append, map_char_groupTokens, ih, encodeInts]

/-- Settles O17: by induction on the integers, one group after the other; one integer is a list of one. -/
theorem encodeRunsItsWords : Obligations.EncodeRunsItsWords := by
  refine ⟨fun ns s hidle hhost => ?list, fun n s hidle hhost => ?single⟩
  case list =>
    exact ⟨ns.flatMap groupTokens, by rw [exec_encode, foldl_runWord ns hidle hhost], map_char_flatMap_groupTokens ns⟩
  case single =>
    refine ⟨groupTokens n, by rw [exec_encode1, runWord_encIdle n hidle hhost], map_char_groupTokens n, ?_⟩
    obtain ⟨-, hone⟩ := singleEncodesAsList n
    rw [(hone s).1, (hone s).2]

end Sys2Proof.Proofs.EncoderOps

/-! The accumulator (41_decoder.md R81; 42_codec_laws.md R93). -/

namespace Sys2Proof.Proofs.Accumulator

open Sys2Proof Sys2Proof.Machine

theorem toNat_acc (value : Word) (shift : BitVec 6) (p : Payload) :
    (acc value shift p).toNat = (value.toNat + p.toNat * 2 ^ shift.toNat) % 2 ^ 32 :=
  BitVec.toNat_ofNat _ _

/-- From bit 32 on, nothing is left of a number in a word. -/
theorem two_pow_dvd_mul_two_pow {k : Nat} (hk : 32 ≤ k) (a : Nat) : 2 ^ 32 ∣ a * 2 ^ k :=
  Dvd.dvd.mul_left (Nat.pow_dvd_pow 2 hk) a

theorem ofNat_add_mul_two_pow {k : Nat} (hk : 32 ≤ k) (value : Word) (a : Nat) :
    BitVec.ofNat 32 (value.toNat + a * 2 ^ k) = value := by
  apply BitVec.eq_of_toNat_eq
  obtain ⟨b, hb⟩ := two_pow_dvd_mul_two_pow hk a
  rw [BitVec.toNat_ofNat, hb, Nat.add_mul_mod_self_left, Nat.mod_eq_of_lt value.isLt]

theorem acc_of_shift_ge {value : Word} {shift : BitVec 6} (hshift : 32 ≤ shift.toNat) (p : Payload) :
    acc value shift p = value :=
  ofNat_add_mul_two_pow hshift value p.toNat

/-- A payload above a value that ends below the shift fits 5 bits more. -/
theorem add_payload_lt {value k : Nat} (hvalue : value < 2 ^ k) (p : Payload) : value + p.toNat * 2 ^ k < 2 ^ (k + 5) := by
  calc value + p.toNat * 2 ^ k < 2 ^ k + p.toNat * 2 ^ k := Nat.add_lt_add_right hvalue _
    _ = (p.toNat + 1) * 2 ^ k := by ring
    _ ≤ 32 * 2 ^ k := Nat.mul_le_mul_right _ p.isLt
    _ = 2 ^ (k + 5) := by ring

theorem toNat_acc_of_fits {value : Word} {shift : BitVec 6} (hshift : shift.toNat ≤ 25)
    (hvalue : value.toNat < 2 ^ shift.toNat) (p : Payload) :
    (acc value shift p).toNat = value.toNat + p.toNat * 2 ^ shift.toNat := by
  have hpow : 2 ^ (shift.toNat + 5) ≤ 2 ^ 32 := Nat.pow_le_pow_right (by decide) (by omega)
  rw [toNat_acc, Nat.mod_eq_of_lt (Nat.lt_of_lt_of_le (add_payload_lt hvalue p) hpow)]

/-- Settles O20: the sum modulo 2^32; the cases say how much of the product is below 2^32. -/
theorem accumulatorAddsPayload : Obligations.AccumulatorAddsPayload := by
  refine fun value shift p => ⟨toNat_acc value shift p, fun hshift => acc_of_shift_ge hshift p, fun hshift => ?thirty,
    fun hshift hvalue => toNat_acc_of_fits hshift hvalue p⟩
  case thirty =>
    rw [toNat_acc, hshift]
    omega

/-- A number added above the bits of another is a bitwise OR with it. -/
theorem add_mul_two_pow_eq_or {value k : Nat} (hvalue : value < 2 ^ k) (a : Nat) :
    value + a * 2 ^ k = value ||| a * 2 ^ k := by
  rw [Nat.add_comm, Nat.mul_comm, Nat.two_pow_add_eq_or_of_lt hvalue, Nat.or_comm]

/-- Settles O35: below a shift of 32 the value ends where the payload begins; at 35 nothing is added. -/
theorem accumulatorIsOr : Obligations.AccumulatorIsOr := fun s p hinv => by
  obtain ⟨hlegal, -, hvalue⟩ := hinv
  by_cases hshift : s.decShift.toNat ≤ 30
  · rw [acc, add_mul_two_pow_eq_or (hvalue hshift), BitVec.ofNat_or, BitVec.ofNat_toNat, BitVec.setWidth_eq]
  · have hge : 32 ≤ s.decShift.toNat := by
      simp only [List.mem_cons, List.not_mem_nil, or_false] at hlegal
      omega
    have hzero : BitVec.ofNat 32 (p.toNat * 2 ^ s.decShift.toNat) = 0#32 := by
      simpa using ofNat_add_mul_two_pow hge 0#32 p.toNat
    rw [acc_of_shift_ge hge, hzero, BitVec.or_zero]

end Sys2Proof.Proofs.Accumulator

/-! Groups as characters (30_encoding.md R48, R53, R56, R58). A group decodes to the sum of its payloads, the decoder's shift being the
position of the next payload but for its saturation, which is past bit 31 anyway. -/

namespace Sys2Proof.Proofs.Groups

open Sys2Proof Sys2Proof.Machine Sys2Proof.Proofs.Roms Sys2Proof.Proofs.Symbols Sys2Proof.Proofs.Digits
  Sys2Proof.Proofs.ZigzagInverse Sys2Proof.Proofs.CharSteps Sys2Proof.Proofs.RoundTrip Sys2Proof.Proofs.GroupDigits
  Sys2Proof.Proofs.Accumulator

/-! ## The recursion of a group -/

/-- A continuation digit's character. -/
def continues (c : CharCode) : Bool := (lookup c).any contOf

/-- A character that ends a group: a terminating digit's, or `=`. -/
def ends (c : CharCode) : Bool := (lookup c).any fun v => !contOf v

theorem continues_iff (c : CharCode) : continues c = true ↔ (inv c).valid = true ∧ contOf (inv c).val = true := by
  simp only [continues, Option.any_eq_true_iff_get, lookup]
  cases hc : (inv c).valid <;> simp

theorem ends_iff (c : CharCode) : ends c = true ↔ (inv c).valid = true ∧ contOf (inv c).val = false := by
  simp only [ends, lookup]
  cases hc : (inv c).valid <;> simp

theorem isGroup_singleton (c : CharCode) : isGroup [c] = ends c := rfl

theorem isGroup_cons {c : CharCode} {g : List CharCode} (hg : g ≠ []) : isGroup (c :: g) = (continues c && isGroup g) := by
  obtain ⟨b, g, rfl⟩ := List.exists_cons_of_ne_nil hg
  rfl

theorem isGroup_ne_nil {g : List CharCode} (hg : isGroup g = true) : g ≠ [] := by
  rintro rfl
  exact Bool.false_ne_true hg

theorem isGroup_cons_of_continues {c : CharCode} {g : List CharCode} (hc : continues c = true) (hg : isGroup g = true) :
    isGroup (c :: g) = true := by
  rw [isGroup_cons (isGroup_ne_nil hg), hc, hg, Bool.and_self]

/-- A group is a character that ends it, or a continuation digit's and a group. -/
theorem isGroup_induction {P : (g : List CharCode) → isGroup g = true → Prop} (last : ∀ c (hc : ends c = true), P [c] hc)
    (more : ∀ c g (hc : continues c = true) (hg : isGroup g = true), P g hg → P (c :: g) (isGroup_cons_of_continues hc hg))
    {g : List CharCode} (hg : isGroup g = true) : P g hg := by
  induction g with
  | nil => exact absurd hg Bool.false_ne_true
  | cons c g ih =>
    by_cases hnil : g = []
    · subst hnil
      exact last c hg
    · have hparts := hg
      rw [isGroup_cons hnil, Bool.and_eq_true] at hparts
      obtain ⟨hc, hrest⟩ := hparts
      exact more c g hc hrest (ih hrest)

/-! ## The sum of the payloads -/

/-- The payload of a character of the alphabet. -/
def charPayload (c : CharCode) : Payload := payloadOf (inv c).val

theorem payloads_cons (c : CharCode) (g : List CharCode) : payloads (c :: g) = charPayload c :: payloads g := rfl

theorem payloadSumFrom_eq (k : Nat) (ps : List Payload) : payloadSumFrom k ps = payloadSum ps * 2 ^ k := by
  rw [payloadSum]
  induction ps generalizing k with
  | nil => exact (Nat.zero_mul _).symm
  | cons p ps ih =>
    simp only [payloadSumFrom, Config.payloadBits, ih (k + 5), ih (0 + 5)]
    ring

theorem payloadSum_nil : payloadSum [] = 0 := rfl

theorem payloadSum_cons (p : Payload) (ps : List Payload) : payloadSum (p :: ps) = p.toNat + 32 * payloadSum ps := by
  rw [payloadSum, payloadSumFrom, Config.payloadBits, payloadSumFrom_eq]
  ring

theorem payloadSum_lt (ps : List Payload) : payloadSum ps < 2 ^ (5 * ps.length) := by
  induction ps with
  | nil => exact Nat.one_pos
  | cons p ps ih =>
    have hpow : 2 ^ (5 * (p :: ps).length) = 32 * 2 ^ (5 * ps.length) := by rw [List.length_cons]; ring
    rw [payloadSum_cons, hpow]
    omega

/-! ## The decoder on a group -/

/-- The shift that the decoder has at the digit whose place is `k` bits up. -/
def shiftAt (k : Nat) : BitVec 6 := BitVec.ofNat 6 (min k Config.shiftSat)

theorem toNat_shiftAt (k : Nat) : (shiftAt k).toNat = min k 35 := by
  rw [shiftAt, BitVec.toNat_ofNat, Config.shiftSat]
  omega

theorem nextShift_shiftAt (k : Nat) : nextShift (shiftAt k) = shiftAt (k + 5) := by
  apply BitVec.eq_of_toNat_eq
  simp only [nextShift, Config.payloadBits, Config.shiftSat, toNat_shiftAt, BitVec.toNat_ofNat]
  omega

/-- Saturation of the shift loses nothing that a word could hold. -/
theorem acc_shiftAt (value : Word) (k : Nat) (p : Payload) :
    acc value (shiftAt k) p = BitVec.ofNat 32 (value.toNat + p.toNat * 2 ^ k) := by
  by_cases hk : k ≤ 35
  · rw [acc, toNat_shiftAt, min_eq_left hk]
  · rw [acc_of_shift_ge (by rw [toNat_shiftAt]; omega), ofNat_add_mul_two_pow (by omega)]

theorem ofNat_toNat_ofNat_add (a b : Nat) : BitVec.ofNat 32 ((BitVec.ofNat 32 a).toNat + b) = BitVec.ofNat 32 (a + b) := by
  apply BitVec.eq_of_toNat_eq
  simp only [BitVec.toNat_ofNat, Nat.mod_add_mod]

theorem foldl_stepChar_group {g : List CharCode} (hg : isGroup g = true) {d : DS} {k : Nat} (hd : d.fail = false)
    (hshift : d.shift = shiftAt k) :
    g.foldl stepChar d =
      atStart (d.res ++ [zzInv (BitVec.ofNat 32 (d.value.toNat + payloadSumFrom k (payloads g)))]) := by
  induction hg using isGroup_induction generalizing d k with
  | last c hc =>
    obtain ⟨hvalid, hcont⟩ := (ends_iff c).mp hc
    rw [List.foldl_cons, List.foldl_nil, stepChar_ends hd (lookup_of_valid hvalid) hcont, hshift, acc_shiftAt]
    rfl
  | more c g hc hg ih =>
    obtain ⟨hvalid, hcont⟩ := (continues_iff c).mp hc
    have hnext : nextShift d.shift = shiftAt (k + 5) := by rw [hshift, nextShift_shiftAt]
    rw [List.foldl_cons, stepChar_continues hd (lookup_of_valid hvalid) hcont, ih (k := k + 5)]
    · rw [hshift, acc_shiftAt, ofNat_toNat_ofNat_add, Nat.add_assoc]
      rfl
    · exact hd
    · exact hnext

/-- The integer of a group (30_encoding.md R53). -/
def groupInt (g : List CharCode) : Word := zzInv (BitVec.ofNat 32 (payloadSum (payloads g)))

theorem foldl_stepChar_groupInt {g : List CharCode} (hg : isGroup g = true) (ws : List Word) :
    g.foldl stepChar (atStart ws) = atStart (ws ++ [groupInt g]) := by
  rw [foldl_stepChar_group hg (k := 0) rfl rfl, groupInt, payloadSum]
  exact congrArg (fun a => atStart (ws ++ [zzInv (BitVec.ofNat 32 a)])) (Nat.zero_add _)

theorem decodeStr_group {g : List CharCode} (hg : isGroup g = true) : decodeStr g = some [groupInt g] := by
  rw [decodeStr, ds0_eq_atStart, foldl_stepChar_groupInt hg, finish_atStart, List.nil_append]

/-- Settles O6: the group takes the decoder from its start to the start of the next one. -/
theorem groupDecodesToItsSum : Obligations.GroupDecodesToItsSum := fun _ hg => decodeStr_group hg

/-- Settles O8: of the seventh payload two bits are below 2^32, of the payloads after it none. -/
theorem overlongGroupsKeepLowBits : Obligations.OverlongGroupsKeepLowBits := by
  intro g p0 p1 p2 p3 p4 p5 p6 more hg hps
  rw [decodeStr_group hg, groupInt, hps]
  congr 3
  apply BitVec.eq_of_toNat_eq
  simp only [BitVec.toNat_ofNat, payloadSum_cons]
  omega

end Sys2Proof.Proofs.Groups

/-! What the decoder holds in the middle of a group of the encoder (42_codec_laws.md R95), and that no group begins with another
(R96). -/

namespace Sys2Proof.Proofs.PartialGroups

open Sys2Proof Sys2Proof.Machine Sys2Proof.Proofs.Digits Sys2Proof.Proofs.CharSteps Sys2Proof.Proofs.RoundTrip
  Sys2Proof.Proofs.GroupDigits Sys2Proof.Proofs.Groups

/-! ## The payloads of the digits -/

theorem payloadSum_digits (u : Word) : payloadSum ((digits u).map fun d => d.extractLsb' 0 5) = u.toNat := by
  induction u using digits_induction with
  | last u h =>
    rw [digits_of_div_eq_zero h, List.map_singleton, nextDigit_eq, extractLsb'_mkDigit, payloadSum_cons,
      payloadSum_nil, BitVec.toNat_ofNat]
    omega
  | more u h ih =>
    rw [digits_of_div_ne_zero h, List.map_cons, payloadSum_cons, ih, nextDigit_eq, extractLsb'_mkDigit, toNat_restOf,
      BitVec.toNat_ofNat]
    omega

/-! ## The first characters of a group -/

/-- Adding the low digit at the shift, and then the low bits of the rest, adds the low bits of the word. -/
theorem acc_lowBits (value u : Word) (shift : BitVec 6) (j : Nat) :
    BitVec.ofNat 32 ((acc value shift (BitVec.ofNat 5 u.toNat)).toNat + u.toNat / 32 % 2 ^ (5 * j) * 2 ^ (shift.toNat + 5)) =
      BitVec.ofNat 32 (value.toNat + u.toNat % 2 ^ (5 * (j + 1)) * 2 ^ shift.toNat) := by
  have hpow : 2 ^ (5 * (j + 1)) = 32 * 2 ^ (5 * j) := by ring
  have hword : (BitVec.ofNat 32 (u.toNat % 2 ^ (5 * (j + 1)))).toNat = u.toNat % 2 ^ (5 * (j + 1)) := by
    rw [BitVec.toNat_ofNat, Nat.mod_eq_of_lt (Nat.lt_of_le_of_lt (Nat.mod_le _ _) u.isLt)]
  have hdigit : BitVec.ofNat 5 (u.toNat % 2 ^ (5 * (j + 1))) = BitVec.ofNat 5 u.toNat := by
    apply BitVec.eq_of_toNat_eq
    rw [BitVec.toNat_ofNat, BitVec.toNat_ofNat, hpow, Nat.mod_mul_right_mod]
  have hlow := acc_lowDigit value (BitVec.ofNat 32 (u.toNat % 2 ^ (5 * (j + 1)))) shift
  rw [hword, hdigit] at hlow
  rw [← hlow, hpow, Nat.mod_mul_right_div_self]

/-- After `j` characters of a group, fewer than all, the decoder holds the low `5 * j` bits of the word, and has emitted nothing. -/
theorem foldl_stepChar_take_digits (u : Word) (j : Nat) (hj : j < (digits u).length) (d : DS) (hd : d.fail = false)
    (hfit : u.toNat * 2 ^ d.shift.toNat < 2 ^ 32) :
    (((digits u).map alphaDigit).take j).foldl stepChar d =
      { d with value := BitVec.ofNat 32 (d.value.toNat + u.toNat % 2 ^ (5 * j) * 2 ^ d.shift.toNat)
               shift := BitVec.ofNat 6 (d.shift.toNat + 5 * j) } := by
  induction j generalizing u d with
  | zero => simp [Nat.mod_one]
  | succ j ih =>
    by_cases h : u.toNat / 32 = 0
    · rw [digits_of_div_eq_zero h, List.length_singleton] at hj
      omega
    · rw [digits_of_div_ne_zero h, List.length_cons] at hj
      have hshift := toNat_nextShift h hfit
      rw [digits_of_div_ne_zero h, nextDigit_eq, decide_eq_true h, List.map_cons, List.take_succ_cons, List.foldl_cons,
        stepChar_continuationDigit _ hd, ih (restOf u) (by omega)]
      · simp only [hshift, toNat_restOf, acc_lowBits, Nat.mul_succ, Nat.add_assoc, Nat.add_comm 5]
      · exact hd
      · simpa only [hshift] using restOf_fits hfit

/-- Every word fits at the start of a group. -/
theorem fits_at_zero (u : Word) : u.toNat * 2 ^ (0#6).toNat < 2 ^ 32 := by
  simpa using u.isLt

/-- A group of any word ends with the word's integer. -/
theorem foldl_stepChar_all_digits (u : Word) (ws : List Word) :
    ((digits u).map alphaDigit).foldl stepChar (atStart ws) = atStart (ws ++ [zzInv u]) := by
  rw [foldl_stepChar_digits u (atStart ws) rfl (fits_at_zero u)]
  simp [atStart]

/-- Settles O37: the sum and the flags by the recursion of `Digits`; the decoder by its state after each character. -/
theorem accumulatorUndoesDigits : Obligations.AccumulatorUndoesDigits := fun u => by
  refine ⟨payloadSum_digits u, continuationBits_digits u, fun i hi => ?partway, foldl_stepChar_all_digits u []⟩
  case partway =>
    rw [foldl_stepChar_take_digits u (i + 1) hi ds0 rfl (fits_at_zero u)]
    simp [ds0]

/-! ## No group begins with another -/

theorem stepChar_res_prefix (d : DS) (c : CharCode) : d.res <+: (stepChar d c).res := by
  cases hd : d.fail with
  | true => rw [stepChar_failed c hd]
  | false =>
    cases hc : lookup c with
    | none => rw [stepChar_bad hd hc]
    | some v =>
      cases hv : contOf v with
      | true => rw [stepChar_continues hd hc hv]
      | false =>
        rw [stepChar_ends hd hc hv]
        exact List.prefix_append _ _

theorem foldl_stepChar_res_prefix (cs : List CharCode) (d : DS) : d.res <+: (cs.foldl stepChar d).res := by
  induction cs generalizing d with
  | nil => exact List.prefix_rfl
  | cons c cs ih => exact (stepChar_res_prefix d c).trans (ih (stepChar d c))

/-- Settles O38: the decoder emits the integer of a group at its end and takes no integer back, and it undoes `Encode`. -/
theorem groupsArePrefixFree : Obligations.GroupsArePrefixFree := by
  refine ⟨fun n m hprefix => ?groups, fun ns ms h => ?sequences⟩
  case groups =>
    obtain ⟨more, hmore⟩ := hprefix
    have hres := foldl_stepChar_res_prefix more (atStart [n])
    have hfold : more.foldl stepChar (atStart [n]) = atStart [m] := by
      have hn := foldl_stepChar_encodeGroup n []
      have hm := foldl_stepChar_encodeGroup m []
      rwa [← hmore, List.foldl_append, hn] at hm
    rw [hfold] at hres
    exact List.singleton_inj.mp (hres.eq_of_length rfl)
  case sequences =>
    have hdecode := decodeOfEncode ns
    rw [h, decodeOfEncode ms] at hdecode
    exact (Option.some_inj.mp hdecode).symm

end Sys2Proof.Proofs.PartialGroups

/-! Canonical groups (30_encoding.md R56): the digits of a group's sum are the group's own, if it ends with a payload that is not 0, has
no `=`, and its sum fits a word. -/

namespace Sys2Proof.Proofs.CanonicalGroups

open Sys2Proof Sys2Proof.Machine Sys2Proof.Proofs.Roms Sys2Proof.Proofs.Symbols Sys2Proof.Proofs.Digits
  Sys2Proof.Proofs.ZigzagInverse Sys2Proof.Proofs.CharSteps Sys2Proof.Proofs.RoundTrip Sys2Proof.Proofs.GroupDigits
  Sys2Proof.Proofs.Groups

/-! ## Lengths and sums -/

theorem groupLen_le_of_lt {u : Word} {k : Nat} (hk : 0 < k) (h : u.toNat < 2 ^ (5 * k)) : groupLen u ≤ k := by
  have hsize := Nat.size_le.mpr h
  rw [groupLen_eq_size]
  omega

theorem two_pow_le_of_one_lt_groupLen {u : Word} (h : 1 < groupLen u) : 2 ^ (5 * (groupLen u - 1)) ≤ u.toNat := by
  apply Nat.lt_size.mp
  rw [groupLen_eq_size] at h ⊢
  omega

theorem lt_two_pow_groupLen (u : Word) : u.toNat < 2 ^ (5 * groupLen u) := by
  apply Nat.size_le.mp
  rw [groupLen_eq_size]
  omega

theorem payloadSum_append_singleton (ps : List Payload) (p : Payload) :
    payloadSum (ps ++ [p]) = payloadSum ps + p.toNat * 2 ^ (5 * ps.length) := by
  induction ps with
  | nil => simp [payloadSum_cons, payloadSum_nil]
  | cons q ps ih =>
    rw [List.cons_append, payloadSum_cons, payloadSum_cons, ih, List.length_cons]
    ring

theorem payloadSum_ne_zero {ps : List Payload} (h : ps.getLastD 0#5 ≠ 0#5) : payloadSum ps ≠ 0 := by
  obtain rfl | ⟨init, p, rfl⟩ := ps.eq_nil_or_concat'
  · exact absurd rfl h
  · have hp : p.toNat ≠ 0 := fun hzero => h (by simpa using BitVec.eq_of_toNat_eq hzero)
    rw [payloadSum_append_singleton]
    positivity

/-- The sum of an in-range group fits a word. -/
theorem payloadSum_lt_of_inRange {ps : List Payload} (hlen : ps.length ≤ 7)
    (hlast : ps.length = 7 → (ps.getLastD 0#5).toNat ≤ 3) : payloadSum ps < 2 ^ 32 := by
  by_cases hseven : ps.length = 7
  · obtain rfl | ⟨init, p, rfl⟩ := ps.eq_nil_or_concat'
    · exact absurd hseven (by decide)
    · have hinit : init.length = 6 := by simpa using hseven
      have hp : p.toNat ≤ 3 := by simpa using hlast hseven
      have hlt := payloadSum_lt init
      rw [payloadSum_append_singleton, hinit]
      rw [hinit] at hlt
      omega
  · have hpow : 2 ^ (5 * ps.length) ≤ 2 ^ 30 := Nat.pow_le_pow_right (by decide) (by omega)
    have hlt := payloadSum_lt ps
    omega

/-! ## From a group to the digits of its sum -/

/-- A character of the alphabet other than `=` is the one of the digit of its own flag and payload. -/
theorem alphaDigit_of_char {c : CharCode} (hc : (inv c).valid = true) (hne : c ≠ 0x3D#8) :
    alphaDigit (mkDigit (contOf (inv c).val) (charPayload c)) = c := by
  obtain ⟨hlt, halpha⟩ := alpha_inv hc
  have hval : (inv c).val.toNat ≠ 64 := fun h64 => by
    simp only [h64] at halpha
    exact hne halpha.symm
  have hdigit : (mkDigit (contOf (inv c).val) (charPayload c)).toNat = (inv c).val.toNat := by
    have hflag : (decide ((inv c).val.toNat / 32 % 2 = 1)).toNat = (inv c).val.toNat / 32 := by
      simp only [Config.nsym] at hlt
      have hdiv : (inv c).val.toNat / 32 = 0 ∨ (inv c).val.toNat / 32 = 1 := by omega
      obtain h | h := hdiv <;> rw [h] <;> rfl
    rw [toNat_mkDigit, charPayload, toNat_payloadOf, contOf_eq_decide, hflag, Nat.div_add_mod]
  exact (congrArg alpha (Fin.ext hdigit)).trans halpha

theorem getLastD_payloads_cons (c : CharCode) {g : List CharCode} (hg : g ≠ []) :
    (payloads (c :: g)).getLastD 0#5 = (payloads g).getLastD 0#5 := by
  obtain ⟨b, g, rfl⟩ := List.exists_cons_of_ne_nil hg
  rfl

theorem map_alphaDigit_digits_payloadSum {g : List CharCode} (hg : isGroup g = true)
    (hfit : payloadSum (payloads g) < 2 ^ 32) (htop : 1 < g.length → (payloads g).getLastD 0#5 ≠ 0#5) (heq : 0x3D#8 ∉ g) :
    (digits (BitVec.ofNat 32 (payloadSum (payloads g)))).map alphaDigit = g := by
  have hword : (BitVec.ofNat 32 (payloadSum (payloads g))).toNat = payloadSum (payloads g) := by
    rw [BitVec.toNat_ofNat, Nat.mod_eq_of_lt hfit]
  induction hg using isGroup_induction with
  | last c hc =>
    obtain ⟨hvalid, hcont⟩ := (ends_iff c).mp hc
    have hsum : payloadSum (payloads [c]) = (charPayload c).toNat := by
      rw [payloads_cons, payloadSum_cons]
      exact Nat.add_zero _
    have hne : c ≠ 0x3D#8 := fun h => heq (h ▸ List.mem_singleton_self c)
    have hdiv : payloadSum (payloads [c]) / 32 = 0 := by omega
    rw [digits_recursion, hword, if_neg (not_not.mpr hdiv), hsum, BitVec.ofNat_toNat, BitVec.setWidth_eq,
      List.map_singleton, ← hcont, alphaDigit_of_char hvalid hne]
  | more c g hc hg ih =>
    obtain ⟨hvalid, hcont⟩ := (continues_iff c).mp hc
    obtain ⟨hne, hrest⟩ := not_or.mp (mt List.mem_cons.mpr heq)
    have hlen : 1 < (c :: g).length := by
      have hpos := List.length_pos_iff.mpr (isGroup_ne_nil hg)
      rw [List.length_cons]
      omega
    have hlast : (payloads g).getLastD 0#5 ≠ 0#5 := by
      rw [← getLastD_payloads_cons c (isGroup_ne_nil hg)]
      exact htop hlen
    have hpos := payloadSum_ne_zero hlast
    have hsum : payloadSum (payloads (c :: g)) = (charPayload c).toNat + 32 * payloadSum (payloads g) := payloadSum_cons _ _
    have hdiv : payloadSum (payloads (c :: g)) / 32 = payloadSum (payloads g) := by omega
    have hlow : BitVec.ofNat 5 (payloadSum (payloads (c :: g))) = charPayload c := by
      apply BitVec.eq_of_toNat_eq
      rw [BitVec.toNat_ofNat]
      omega
    have hrestWord : (BitVec.ofNat 32 (payloadSum (payloads g))).toNat = payloadSum (payloads g) := by
      rw [BitVec.toNat_ofNat, Nat.mod_eq_of_lt (by omega)]
    rw [digits_recursion, hword, hdiv, if_pos hpos, hlow, List.map_cons, ← hcont, alphaDigit_of_char hvalid (Ne.symm hne),
      ih (by omega) (fun _ => hlast) hrest hrestWord]

/-! ## The encoder's groups -/

theorem charPayload_alphaDigit (d : Digit) : charPayload (alphaDigit d) = d.extractLsb' 0 5 := by
  apply BitVec.eq_of_toNat_eq
  rw [charPayload, inv_alphaDigit, toNat_payloadOf, toNat_symbol_digit, BitVec.extractLsb'_toNat, Nat.shiftRight_zero]

theorem payloads_map_alphaDigit (ds : List Digit) :
    payloads (ds.map alphaDigit) = ds.map fun d => d.extractLsb' 0 5 := by
  rw [payloads, List.map_map]
  exact List.map_congr_left fun d _ => charPayload_alphaDigit d

theorem continues_alphaDigit (p : Payload) : continues (alphaDigit (mkDigit true p)) = true := by
  rw [continues, lookup_alphaDigit, Option.any_some, contOf_mkDigit]

theorem ends_alphaDigit (p : Payload) : ends (alphaDigit (mkDigit false p)) = true := by
  rw [ends, lookup_alphaDigit, Option.any_some, contOf_mkDigit, Bool.not_false]

theorem isGroup_map_alphaDigit (u : Word) : isGroup ((digits u).map alphaDigit) = true := by
  induction u using digits_induction with
  | last u h =>
    rw [digits_of_div_eq_zero h, nextDigit_eq, decide_eq_false (not_not.mpr h), List.map_singleton, isGroup_singleton,
      ends_alphaDigit]
  | more u h ih =>
    rw [digits_of_div_ne_zero h, nextDigit_eq, decide_eq_true h, List.map_cons]
    exact isGroup_cons_of_continues (continues_alphaDigit _) ih

theorem isGroup_encodeGroup (n : Word) : isGroup (encodeGroup n) = true := isGroup_map_alphaDigit (zz n)

theorem length_encodeGroup (n : Word) : (encodeGroup n).length = groupLen (zz n) := by
  rw [encodeGroup, List.length_map, length_digits]

theorem getLastD_payloads_encodeGroup (n : Word) :
    (payloads (encodeGroup n)).getLastD 0#5 = BitVec.ofNat 5 ((zz n).toNat / 2 ^ (5 * (groupLen (zz n) - 1))) := by
  rw [encodeGroup, payloads_map_alphaDigit, List.getLastD_eq_getLast?, List.getLast?_map, getLast?_digits, Option.map_some,
    extractLsb'_mkDigit, Option.getD_some]

/-- The last payload of a group, as a number: the topmost bits of the word. -/
theorem toNat_getLastD_payloads_encodeGroup (n : Word) :
    ((payloads (encodeGroup n)).getLastD 0#5).toNat = (zz n).toNat / 2 ^ (5 * (groupLen (zz n) - 1)) := by
  have hpow : 2 ^ (5 * groupLen (zz n)) = 2 ^ (5 * (groupLen (zz n) - 1)) * 2 ^ 5 := by
    have hpos := groupLen_pos (zz n)
    rw [← Nat.pow_add]
    congr 1
    omega
  have hlt : (zz n).toNat / 2 ^ (5 * (groupLen (zz n) - 1)) < 2 ^ 5 :=
    Nat.div_lt_of_lt_mul (hpow ▸ lt_two_pow_groupLen (zz n))
  rw [getLastD_payloads_encodeGroup, BitVec.toNat_ofNat, Nat.mod_eq_of_lt hlt]

theorem canonicalForm_iff (g : List CharCode) : canonicalForm g = true ↔
    isGroup g = true ∧ g.length ≤ 7 ∧ (g.length = 7 → ((payloads g).getLastD 0#5).toNat ≤ 3) ∧
      (1 < g.length → (payloads g).getLastD 0#5 ≠ 0#5) ∧ 0x3D#8 ∉ g := by
  simp only [canonicalForm, inRange, Bool.and_eq_true, decide_eq_true_eq, Bool.not_eq_true', List.contains_eq_mem,
    decide_eq_false_iff_not, and_assoc]

theorem canonicalForm_encodeGroup (n : Word) : canonicalForm (encodeGroup n) = true := by
  rw [canonicalForm_iff, length_encodeGroup]
  refine ⟨isGroup_encodeGroup n, groupLen_le_maxGroup (zz n), fun hseven => ?seventh, fun hlong hzero => ?top, fun hmem => ?eq⟩
  case seventh =>
    rw [toNat_getLastD_payloads_encodeGroup, hseven]
    omega
  case top =>
    have hnat := toNat_getLastD_payloads_encodeGroup n
    have hpos := Nat.div_pos (two_pow_le_of_one_lt_groupLen hlong) (Nat.two_pow_pos _)
    rw [hzero] at hnat
    exact absurd hnat hpos.ne
  case eq =>
    obtain ⟨-, -, hne⟩ := encoderNeverEmitsEquals n _ hmem
    exact hne rfl

/-- A canonical group is the encoder's for the integer that it decodes to. -/
theorem encodeGroup_groupInt {g : List CharCode} (hg : canonicalForm g = true) : encodeGroup (groupInt g) = g := by
  obtain ⟨hgroup, hlen, hseven, htop, heq⟩ := (canonicalForm_iff g).mp hg
  have hps : (payloads g).length = g.length := List.length_map _
  have hfit : payloadSum (payloads g) < 2 ^ 32 := payloadSum_lt_of_inRange (by omega) fun h => hseven (by omega)
  rw [encodeGroup, groupInt, zz_zzInv, map_alphaDigit_digits_payloadSum hgroup hfit htop heq]

/-- Settles O7: the encoder's groups meet the conditions, and a group that meets them is that of its own integer. -/
theorem canonicalGroupsAreTheEncoders : Obligations.CanonicalGroupsAreTheEncoders := fun g => by
  refine ⟨fun hg => ⟨groupInt g, encodeGroup_groupInt hg⟩, ?_⟩
  rintro ⟨n, rfl⟩
  exact canonicalForm_encodeGroup n

end Sys2Proof.Proofs.CanonicalGroups

/-! `Encode` after `Decode` (42_codec_laws.md R103). A string that decodes is the concatenation of its groups and decodes to their
integers, group by group; so the question comes down to one group. -/

namespace Sys2Proof.Proofs.Reencode

open Sys2Proof Sys2Proof.Machine Sys2Proof.Proofs.CharSteps Sys2Proof.Proofs.RoundTrip Sys2Proof.Proofs.DecodeFailure
  Sys2Proof.Proofs.Groups Sys2Proof.Proofs.CanonicalGroups

/-! ## The groups of a string -/

theorem splitGroupsFrom_continues {c : CharCode} (hc : continues c = true) (opened cs : List CharCode) :
    splitGroupsFrom opened (c :: cs) = splitGroupsFrom (opened ++ [c]) cs :=
  if_pos hc

theorem continues_eq_false_of_ends {c : CharCode} (hc : ends c = true) : continues c = false := by
  obtain ⟨-, hcont⟩ := (ends_iff c).mp hc
  rw [Bool.eq_false_iff, Ne, continues_iff, hcont]
  exact fun h => Bool.false_ne_true h.2

theorem splitGroupsFrom_ends {c : CharCode} (hc : ends c = true) (opened cs : List CharCode) :
    splitGroupsFrom opened (c :: cs) = ((opened ++ [c]) :: (splitGroups cs).1, (splitGroups cs).2) := by
  have hcont : (lookup c).any contOf = false := continues_eq_false_of_ends hc
  simp only [splitGroupsFrom, hcont, Bool.false_eq_true, if_false, splitGroups]

/-- Cutting a string takes a group off its front. -/
theorem splitGroupsFrom_group {g : List CharCode} (hg : isGroup g = true) (opened cs : List CharCode) :
    splitGroupsFrom opened (g ++ cs) = ((opened ++ g) :: (splitGroups cs).1, (splitGroups cs).2) := by
  induction hg using isGroup_induction generalizing opened with
  | last c hc => exact splitGroupsFrom_ends hc opened cs
  | more c g hc hg ih =>
    rw [List.cons_append, splitGroupsFrom_continues hc, ih, List.append_assoc, List.singleton_append]

theorem splitGroups_flatten {gs : List (List CharCode)} (hgs : ∀ g ∈ gs, isGroup g = true) :
    splitGroups gs.flatten = (gs, []) := by
  induction gs with
  | nil => rfl
  | cons g gs ih =>
    obtain ⟨hg, hgs⟩ := List.forall_mem_cons.mp hgs
    rw [List.flatten_cons, splitGroups, splitGroupsFrom_group hg, ih hgs, List.nil_append]

/-- A string over the alphabet is groups and then continuation digits' characters. -/
theorem exists_groups_of_valid {cs : List CharCode} (hcs : ∀ c ∈ cs, (inv c).valid = true) :
    ∃ (gs : List (List CharCode)) (rest : List CharCode),
      cs = gs.flatten ++ rest ∧ (∀ g ∈ gs, isGroup g = true) ∧ ∀ c ∈ rest, continues c = true := by
  induction cs with
  | nil => exact ⟨[], [], rfl, by simp, by simp⟩
  | cons c cs ih =>
    obtain ⟨hc, hcs⟩ := List.forall_mem_cons.mp hcs
    obtain ⟨gs, rest, rfl, hgs, hrest⟩ := ih hcs
    cases hcont : contOf (inv c).val with
    | false =>
      have hends : isGroup [c] = true := (ends_iff c).mpr ⟨hc, hcont⟩
      exact ⟨[c] :: gs, rest, rfl, List.forall_mem_cons.mpr ⟨hends, hgs⟩, hrest⟩
    | true =>
      have hcontinues : continues c = true := (continues_iff c).mpr ⟨hc, hcont⟩
      cases gs with
      | nil => exact ⟨[], c :: rest, rfl, hgs, List.forall_mem_cons.mpr ⟨hcontinues, hrest⟩⟩
      | cons g gs =>
        obtain ⟨hg, hgs⟩ := List.forall_mem_cons.mp hgs
        exact ⟨(c :: g) :: gs, rest, rfl,
          List.forall_mem_cons.mpr ⟨isGroup_cons_of_continues hcontinues hg, hgs⟩, hrest⟩

/-- A string that decodes is groups and nothing more. -/
theorem exists_groups_of_decodeStr {cs : List CharCode} {ns : List Word} (h : decodeStr cs = some ns) :
    ∃ gs : List (List CharCode), cs = gs.flatten ∧ ∀ g ∈ gs, isGroup g = true := by
  have hdecodes : ¬ decodeStr cs = none := by simp [h]
  rw [decodeFailsExactlyWhen cs, not_or] at hdecodes
  obtain ⟨hvalid, hclosed⟩ := hdecodes
  have hcs : ∀ c ∈ cs, (inv c).valid = true := fun c hc => by
    by_contra hinv
    exact hvalid ⟨c, hc, Bool.eq_false_iff.mpr hinv⟩
  obtain ⟨gs, rest, rfl, hgs, hrest⟩ := exists_groups_of_valid hcs
  obtain rfl | ⟨init, c, rfl⟩ := rest.eq_nil_or_concat'
  · exact ⟨gs, List.append_nil _, hgs⟩
  · obtain ⟨hc, hcont⟩ := (continues_iff c).mp (hrest c (by simp))
    exact absurd ⟨c, by simp, hc, (contOf_inv_iff hc).mp hcont⟩ hclosed

theorem foldl_stepChar_flatten {gs : List (List CharCode)} (hgs : ∀ g ∈ gs, isGroup g = true) (ws : List Word) :
    gs.flatten.foldl stepChar (atStart ws) = atStart (ws ++ gs.map groupInt) := by
  induction gs generalizing ws with
  | nil => rw [List.flatten_nil, List.foldl_nil, List.map_nil, List.append_nil]
  | cons g gs ih =>
    obtain ⟨hg, hgs⟩ := List.forall_mem_cons.mp hgs
    rw [List.flatten_cons, List.foldl_append, foldl_stepChar_groupInt hg, ih hgs, List.map_cons, List.append_assoc,
      List.singleton_append]

theorem decodeStr_flatten {gs : List (List CharCode)} (hgs : ∀ g ∈ gs, isGroup g = true) :
    decodeStr gs.flatten = some (gs.map groupInt) := by
  rw [decodeStr, ds0_eq_atStart, foldl_stepChar_flatten hgs, finish_atStart, List.nil_append]

/-! ## The encoder on the groups' integers -/

theorem encodeInts_eq_flatten (ns : List Word) : encodeInts ns = (ns.map encodeGroup).flatten := by
  induction ns with
  | nil => rfl
  | cons n ns ih => rw [encodeInts, ih, List.map_cons, List.flatten_cons]

/-- The encoder's group of an integer is not longer than any other group for it. -/
theorem length_encodeGroup_groupInt_le {g : List CharCode} (hg : isGroup g = true) :
    (encodeGroup (groupInt g)).length ≤ g.length := by
  have hps : (payloads g).length = g.length := List.length_map _
  have hlt : (BitVec.ofNat 32 (payloadSum (payloads g))).toNat < 2 ^ (5 * g.length) := by
    rw [BitVec.toNat_ofNat, ← hps]
    exact Nat.lt_of_le_of_lt (Nat.mod_le _ _) (payloadSum_lt _)
  rw [length_encodeGroup, groupInt, ZigzagInverse.zz_zzInv]
  exact groupLen_le_of_lt (List.length_pos_iff.mpr (isGroup_ne_nil hg)) hlt

theorem length_flatten_map_le {f : List CharCode → List CharCode} {gs : List (List CharCode)}
    (h : ∀ g ∈ gs, (f g).length ≤ g.length) : (gs.map f).flatten.length ≤ gs.flatten.length := by
  rw [List.length_flatten, List.length_flatten, List.map_map]
  exact List.sum_le_sum h

/-- Settles O43: cutting both strings into groups compares them group by group, and one group is canonical when it is the encoder's. -/
theorem encodeOfDecode : Obligations.EncodeOfDecode := fun cs ns hdecode => by
  obtain ⟨gs, rfl, hgs⟩ := exists_groups_of_decodeStr hdecode
  obtain rfl : gs.map groupInt = ns := Option.some_inj.mp ((decodeStr_flatten hgs).symm.trans hdecode)
  rw [encodeInts_eq_flatten, List.map_map, splitGroups_flatten hgs]
  refine ⟨⟨fun heq => ?canonical, fun hcanonical => ?same⟩, ?shorter⟩
  case canonical =>
    have hencoded : ∀ g ∈ gs.map (encodeGroup ∘ groupInt), canonicalForm g = true := by
      rintro g hg
      obtain ⟨h, -, rfl⟩ := List.mem_map.mp hg
      exact canonicalForm_encodeGroup (groupInt h)
    have hsplit := splitGroups_flatten fun g hg => ((canonicalForm_iff g).mp (hencoded g hg)).1
    rw [heq, splitGroups_flatten hgs] at hsplit
    rw [(Prod.mk.inj hsplit).1]
    exact hencoded
  case same =>
    have hmap : gs.map (encodeGroup ∘ groupInt) = gs.map id :=
      List.map_congr_left fun g hg => encodeGroup_groupInt (hcanonical g hg)
    rw [hmap, List.map_id]
  case shorter => exact length_flatten_map_le fun g hg => length_encodeGroup_groupInt_le (hgs g hg)

end Sys2Proof.Proofs.Reencode

/-! The decoder's operations (41_decoder.md R85 to R88; 60_exceptions.md R116). A character of DEC ends a group and emits, or emits
nothing; only where it emits does it wait for the host. -/

namespace Sys2Proof.Proofs.DecoderOps

open Sys2Proof Sys2Proof.Machine Sys2Proof.Laws Sys2Proof.Proofs.Symbols Sys2Proof.Proofs.CharSteps
  Sys2Proof.Proofs.BadCharacter

/-! ## The instructions as operations -/

theorem exec_decEos (ignored : CharCode) (s : State) : exec (.decEos ignored) s = .next (offerEos s) := rfl

theorem exec_wordToken (w : Word) (s : State) : exec (.wordToken w) s = .next (crossDecOut (.word w) s) := rfl

theorem exec_doneToken (ok : Bool) (s : State) : exec (.doneToken ok) s = .next (crossDecOut (.done ok) s) := rfl

/-! ## When DEC takes a token -/

theorem emission_ends {c : CharCode} {v : Symbol} {s : State} (hfail : s.decFail = false) (hc : lookup c = some v)
    (hv : contOf v = false) :
    emission false c s = some (.word (zzInv (acc s.decValue s.decShift (payloadOf v)))) := by
  simp [emission, charEmission, hfail, hc, hv]

theorem emission_continues {c : CharCode} {v : Symbol} (hc : lookup c = some v) (hv : contOf v = true) (s : State) :
    emission false c s = none := by
  simp [emission, charEmission, hc, hv]

theorem emission_failed {s : State} (hfail : s.decFail = true) (c : CharCode) : emission false c s = none := by
  simp [emission, charEmission, hfail]

theorem decTakes_of_hostTakesDecOut {s : State} (hhost : hostTakesDecOut s) (eos : Bool) (c : CharCode) :
    decTakes eos c s = true := by
  obtain ⟨hrst, hready⟩ := hhost
  simp [decTakes, hrst, hready]

theorem decTakes_reset {s : State} (hrst : s.pins.rst = true) (eos : Bool) (c : CharCode) : decTakes eos c s = false := by
  simp [decTakes, hrst]

theorem decTakes_waits {eos : Bool} {c : CharCode} {s : State} (hout : emission eos c s ≠ none)
    (hready : s.pins.decOutReady = false) : decTakes eos c s = false := by
  obtain ⟨t, ht⟩ := Option.ne_none_iff_exists'.mp hout
  simp [decTakes, ht, hready]

theorem offerChar_waits {c : CharCode} {s : State} (h : decTakes false c s = false) : offerChar c s = s :=
  if_neg (by simp [h])

/-! ## The three kinds of characters -/

theorem contOf_eq_false {v : Symbol} (hv : v.toNat < 32 ∨ v.toNat = 64) : contOf v = false := by
  rw [contOf_eq_decide, decide_eq_false_iff_not]
  omega

theorem contOf_eq_true {v : Symbol} (hlo : 32 ≤ v.toNat) (hhi : v.toNat ≤ 63) : contOf v = true := by
  rw [contOf_eq_decide, decide_eq_true_iff]
  omega

theorem lookup_of_inv {c : CharCode} {v : Symbol} (h : inv c = ⟨true, v⟩) : lookup c = some v := by
  rw [lookup_of_valid (by rw [h]), h]

/-- DEC after the end of a group with the integer `w`. -/
def groupEnded (w : Word) (s : State) : State :=
  { s with decValue := 0#32, decShift := 0#6, decRes := s.decRes ++ [w], decOut := s.decOut ++ [.word w] }

/-- The integer of the group that the payload `p` ends (41_decoder.md R85). -/
def endedInt (p : Nat) (s : State) : Word := zzInv (BitVec.ofNat 32 (s.decValue.toNat + p * 2 ^ s.decShift.toNat))

theorem takeChar_eq_groupEnded {c : CharCode} {v : Symbol} {s : State} (hfail : s.decFail = false)
    (hc : lookup c = some v) (hv : contOf v = false) : takeChar c s = groupEnded (endedInt (v.toNat % 32) s) s := by
  rw [takeChar_ends c s v hfail hc hv, endedInt, ← toNat_payloadOf]
  rfl

theorem offerChar_ends {c : CharCode} {v : Symbol} {s : State} (hc : inv c = ⟨true, v⟩) (hv : v.toNat < 32 ∨ v.toNat = 64)
    (hfail : s.decFail = false) (hhost : hostTakesDecOut s) :
    offerChar c s = groupEnded (endedInt (v.toNat % 32) s) s := by
  rw [offerChar_of_decTakes (decTakes_of_hostTakesDecOut hhost false c),
    takeChar_eq_groupEnded hfail (lookup_of_inv hc) (contOf_eq_false hv)]

/-- Settles O22: DEC takes the character, whose body ends the group. -/
theorem decCharEndsGroup : Obligations.DecCharEndsGroup := fun c v s hc hv hfail hhost =>
  ⟨endedInt (v.toNat % 32) s, rfl, by rw [exec_decChar, offerChar_ends hc hv hfail hhost]; rfl⟩

theorem nextShift_eq (shift : BitVec 6) :
    nextShift shift = BitVec.ofNat 6 (if shift.toNat ≤ 30 then shift.toNat + 5 else 35) := by
  rw [nextShift, Config.payloadBits, Config.shiftSat]
  congr 1
  split_ifs <;> omega

/-- DEC after a continuation digit with the payload `p`. -/
def groupContinued (p : Nat) (s : State) : State :=
  { s with decValue := BitVec.ofNat 32 (s.decValue.toNat + p * 2 ^ s.decShift.toNat)
           decShift := BitVec.ofNat 6 (if s.decShift.toNat ≤ 30 then s.decShift.toNat + 5 else 35) }

theorem offerChar_continues {c : CharCode} {v : Symbol} {s : State} (hc : inv c = ⟨true, v⟩) (hlo : 32 ≤ v.toNat)
    (hhi : v.toNat ≤ 63) (hfail : s.decFail = false) (hrst : s.pins.rst = false) :
    offerChar c s = groupContinued (v.toNat - 32) s := by
  have hlookup := lookup_of_inv hc
  have hcont := contOf_eq_true hlo hhi
  have hpayload : (payloadOf v).toNat = v.toNat - 32 := by
    rw [toNat_payloadOf]
    omega
  rw [offerChar_of_decTakes (decTakes_of_emission_eq_none (emission_continues hlookup hcont s) hrst),
    takeChar_continues c s v hfail hlookup hcont, nextShift_eq, acc, hpayload]
  rfl

/-- Settles O23: a continuation digit emits nothing, so DEC takes it whatever the host takes. -/
theorem decCharContinuesGroup : Obligations.DecCharContinuesGroup := fun c v s hc hlo hhi hfail hrst => by
  rw [exec_decChar, offerChar_continues hc hlo hhi hfail hrst]
  rfl

theorem decTakes_failed {s : State} (hfail : s.decFail = true) (hrst : s.pins.rst = false) (c : CharCode) :
    decTakes false c s = true :=
  decTakes_of_emission_eq_none (emission_failed hfail c) hrst

theorem offerChar_failed {s : State} (hfail : s.decFail = true) (hrst : s.pins.rst = false) (c : CharCode) :
    offerChar c s = s := by
  rw [offerChar_of_decTakes (decTakes_failed hfail hrst c), takeChar_failed c s hfail]

/-- Settles O25: a character of a failed string emits nothing, so it is taken, and its body does nothing. -/
theorem failedStringIgnoresCharacters : Obligations.FailedStringIgnoresCharacters := fun s hfail hrst => by
  refine ⟨fun c => ⟨decTakes_failed hfail hrst c, ?generic, ?outside⟩, fun p hp => ?row⟩
  case generic => rw [exec_decChar, offerChar_failed hfail hrst]
  case outside => rw [exec_decCharOutside, offerChar_failed hfail hrst]
  case row => rw [exec_charForms s p hp, offerChar_failed hfail hrst]

theorem offerChar_ends_waits {c : CharCode} {v : Symbol} {s : State} (hc : inv c = ⟨true, v⟩)
    (hv : v.toNat < 32 ∨ v.toNat = 64) (hfail : s.decFail = false) (hready : s.pins.decOutReady = false) :
    offerChar c s = s := by
  have hout : emission false c s ≠ none := by
    rw [emission_ends hfail (lookup_of_inv hc) (contOf_eq_false hv)]
    exact Option.some_ne_none _
  exact offerChar_waits (decTakes_waits hout hready)

/-- Settles O26: DEC does not take the character, in any row that names it. -/
theorem decCharWaits : Obligations.DecCharWaits := by
  refine ⟨fun c v s hc hv hfail hready => ⟨?generic, ?row⟩, fun s hrst => ?reset⟩
  case generic => rw [exec_decChar, offerChar_ends_waits hc hv hfail hready]
  case row =>
    rintro p hp rfl
    rw [exec_charForms s p hp, offerChar_ends_waits hc hv hfail hready]
  case reset =>
    have hstays (c : CharCode) : offerChar c s = s := offerChar_waits (decTakes_reset hrst false c)
    refine ⟨fun c => ⟨?_, ?_⟩, fun p hp => ?_⟩
    · rw [exec_decChar, hstays]
    · rw [exec_decCharOutside, hstays]
    · rw [exec_charForms s p hp, hstays]

/-! ## The rows with a fixed character -/

/-- The row `i` with the payload `p` is the one of a character with the symbol value `base + p`. -/
def IsRowWithPayload (base : Nat) (i : Instr) (p : Nat) : Prop :=
  p < 32 ∧ ∃ q ∈ charForms, q.2 = i ∧ inv q.1 = ⟨true, BitVec.ofNat 7 (base + p)⟩

theorem terminatingForms_rows : ∀ p ∈ terminatingForms, IsRowWithPayload 0 p.1 p.2 := by
  unfold IsRowWithPayload
  decide

theorem continuationForms_rows : ∀ p ∈ continuationForms, IsRowWithPayload 32 p.1 p.2 := by
  unfold IsRowWithPayload
  decide

/-- A row means `DEC.CHAR` of its character. -/
theorem exec_of_isRowWithPayload {base p : Nat} {i : Instr} (h : IsRowWithPayload base i p) :
    p < 32 ∧ ∃ c, inv c = ⟨true, BitVec.ofNat 7 (base + p)⟩ ∧ ∀ s, exec i s = .next (offerChar c s) := by
  obtain ⟨hlt, ⟨c, i⟩, hmem, rfl, hc⟩ := h
  exact ⟨hlt, c, hc, fun s => exec_charForms s (c, i) hmem⟩

/-- Settles O27: each row is `DEC.CHAR` of its code, which ends the group. -/
theorem terminatingFormsEndGroup : Obligations.TerminatingFormsEndGroup := fun p hp s hfail hhost => by
  obtain ⟨hlt, c, hc, hexec⟩ := exec_of_isRowWithPayload (terminatingForms_rows p hp)
  have hv : (BitVec.ofNat 7 (0 + p.2)).toNat = p.2 := by
    rw [BitVec.toNat_ofNat]
    omega
  refine ⟨endedInt p.2 s, rfl, ?_⟩
  rw [hexec, offerChar_ends hc (.inl (by omega)) hfail hhost, hv, Nat.mod_eq_of_lt hlt]
  rfl

/-- Settles O28: each row is `DEC.CHAR` of its code, which continues the group. -/
theorem continuationFormsContinueGroup : Obligations.ContinuationFormsContinueGroup := fun p hp s hfail hrst => by
  obtain ⟨hlt, c, hc, hexec⟩ := exec_of_isRowWithPayload (continuationForms_rows p hp)
  have hv : (BitVec.ofNat 7 (32 + p.2)).toNat = 32 + p.2 := by
    rw [BitVec.toNat_ofNat]
    omega
  rw [hexec, offerChar_continues hc (by omega) (by omega) hfail hrst, hv, Nat.add_sub_cancel_left]
  rfl

theorem exec_decCharEquals (s : State) : exec .decCharEquals s = .next (offerChar 0x3D#8 s) := rfl

theorem exec_decCharUpperA (s : State) : exec .decCharUpperA s = .next (offerChar 0x41#8 s) := rfl

theorem lookup_equals : lookup 0x3D#8 = some 64#7 := rfl

theorem lookup_upperA : lookup 0x41#8 = some 0#7 := rfl

theorem emission_equals (s : State) : emission false 0x3D#8 s = emission false 0x41#8 s := by
  cases hfail : s.decFail with
  | true => rw [emission_failed hfail, emission_failed hfail]
  | false => rw [emission_ends hfail lookup_equals rfl, emission_ends hfail lookup_upperA rfl]; rfl

theorem takeChar_equals (s : State) : takeChar 0x3D#8 s = takeChar 0x41#8 s := by
  cases hfail : s.decFail with
  | true => rw [takeChar_failed _ s hfail, takeChar_failed _ s hfail]
  | false => rw [takeChar_ends _ s _ hfail lookup_equals rfl, takeChar_ends _ s _ hfail lookup_upperA rfl]; rfl

/-- DEC reads of a symbol value its flag and its payload only, and `=` has both from `A`. -/
theorem offerChar_equals (s : State) : offerChar 0x3D#8 s = offerChar 0x41#8 s := by
  rw [offerChar, offerChar, decTakes, decTakes, emission_equals, takeChar_equals]

/-- Settles O29: the two characters agree, and their payload is 0. -/
theorem equalsActsAsA : Obligations.EqualsActsAsA := fun s => by
  refine ⟨by rw [exec_decCharEquals, exec_decCharUpperA, offerChar_equals], fun hfail hhost => ?_⟩
  have hzero : endedInt ((64#7).toNat % 32) s = zzInv s.decValue := by
    simp [endedInt]
  rw [exec_decCharEquals, offerChar_ends (v := 64#7) rfl (.inr rfl) hfail hhost, hzero]
  rfl

/-! ## `DEC.EOS` -/

theorem verdict_eq_decide (s : State) : verdict s = decide (s.decFail = false ∧ s.decShift = 0#6) := by
  cases hfail : s.decFail <;> by_cases hshift : s.decShift = 0#6 <;> simp [verdict, decOpen, hfail, hshift]

theorem takeEos_eq (s : State) : takeEos s = { s with
    decValue := 0#32, decShift := 0#6, decFail := false, decRes := []
    decOut := s.decOut ++ [.done (decide (s.decFail = false ∧ s.decShift = 0#6))] } := by
  rw [takeEos, verdict_eq_decide]
  rfl

theorem offerEos_taken {s : State} (hhost : hostTakesDecOut s) : offerEos s = takeEos s :=
  if_pos (decTakes_of_hostTakesDecOut hhost true 0#8)

theorem offerEos_waits {s : State} (h : s.pins.decOutReady = false ∨ s.pins.rst = true) : offerEos s = s := by
  refine if_neg ?_
  rw [decTakes_eos]
  obtain h | h := h <;> simp [h]

/-- Settles O30: taken, the end mark does its body; otherwise nothing happens. -/
theorem decEosReportsAndClears : Obligations.DecEosReportsAndClears := by
  refine ⟨fun ignored s hhost => ?taken, fun ignored s h => ?waits⟩
  case taken => rw [exec_decEos, offerEos_taken hhost, takeEos_eq]
  case waits => rw [exec_decEos, offerEos_waits h]

/-! ## The output tokens -/

theorem decOutOffered_of_valid {s : State} (hrst : s.pins.rst = false) (hvalid : s.pins.decInValid = true) :
    decOutOffered s = emission s.pins.decInEos s.pins.decInChar s := by
  simp [decOutOffered, hrst, hvalid]

theorem crossDecOut_offered {s : State} {t : DecOut} (ht : decOutOffered s = some t) (hready : s.pins.decOutReady = true) :
    crossDecOut t s = takeDecIn s.pins.decInEos s.pins.decInChar s := by
  simp [crossDecOut, ht, hready]

theorem crossDecOut_other {s : State} {t : DecOut} (h : decOutOffered s ≠ some t ∨ s.pins.decOutReady = false) :
    crossDecOut t s = s := by
  obtain h | h := h <;> simp [crossDecOut, h]

/-- Settles O32: the word is the one of the character on the wires, or it is not transferred. -/
theorem wordTokenCrosses : Obligations.WordTokenCrosses := by
  refine ⟨fun v s hvalid heos hc hv hfail hhost => ?crosses, fun w s h => ?stays⟩
  case crosses =>
    have hlookup := lookup_of_inv hc
    have hcont := contOf_eq_false hv
    have hword : zzInv (acc s.decValue s.decShift (payloadOf v)) = endedInt (v.toNat % 32) s := by
      rw [acc, toNat_payloadOf, endedInt]
    have hoffered : decOutOffered s = some (.word (endedInt (v.toNat % 32) s)) := by
      rw [decOutOffered_of_valid hhost.1 hvalid, heos, emission_ends hfail hlookup hcont, hword]
    refine ⟨endedInt (v.toNat % 32) s, rfl, ?_⟩
    rw [exec_wordToken, crossDecOut_offered hoffered hhost.2, heos, takeDecIn, if_neg Bool.false_ne_true,
      takeChar_eq_groupEnded hfail hlookup hcont]
    rfl
  case stays => rw [exec_wordToken, crossDecOut_other h]

/-- Settles O33: the verdict is the one of the end mark on the wires, or it is not transferred. -/
theorem doneTokenCrosses : Obligations.DoneTokenCrosses := by
  refine ⟨fun s hvalid heos hhost => ?crosses, fun ok s h => ?stays⟩
  case crosses =>
    have hoffered : decOutOffered s = some (.done (decide (s.decFail = false ∧ s.decShift = 0#6))) := by
      rw [decOutOffered_of_valid hhost.1 hvalid, heos, emission, if_pos rfl, verdict_eq_decide]
    rw [exec_doneToken, crossDecOut_offered hoffered hhost.2, heos, takeDecIn, if_pos rfl, takeEos_eq]
  case stays => rw [exec_doneToken, crossDecOut_other h]

end Sys2Proof.Proofs.DecoderOps

/-! Strings at the step level (41_decoder.md R84, R87; 42_codec_laws.md R105). `DEC.CHAR` is `StepChar` on the decoder's registers, and
every word it appends to `DEC.RES` it also carries on `DEC_OUT`. -/

namespace Sys2Proof.Proofs.Strings

open Sys2Proof Sys2Proof.Machine Sys2Proof.Laws Sys2Proof.Proofs.CharSteps Sys2Proof.Proofs.DecoderOps

/-! ## One character -/

theorem dsOf_congr {s t : State} (h : sameDec s t) : dsOf s = dsOf t := by
  obtain ⟨hvalue, hshift, hfail, hres, -⟩ := h
  rw [dsOf, dsOf, hvalue, hshift, hfail, hres]

theorem dsOf_takeChar (c : CharCode) (s : State) : dsOf (takeChar c s) = stepChar (dsOf s) c := by
  obtain ⟨hfail, h⟩ | ⟨hfail, hc, h⟩ | ⟨v, hfail, hc, hv, h⟩ | ⟨v, hfail, hc, hv, h⟩ := takeChar_cases c s
  · rw [h, stepChar_failed (d := dsOf s) c hfail]
  · rw [h, stepChar_bad (d := dsOf s) hfail hc]; rfl
  · rw [h, stepChar_continues (d := dsOf s) hfail hc hv]; rfl
  · rw [h, stepChar_ends (d := dsOf s) hfail hc hv, atStart, ← hfail]; rfl

/-- The words a step adds to `DEC.RES` are those it carries on `DEC_OUT`. -/
def CarriesItsWords (s t : State) (ws : List Word) : Prop :=
  t.decRes = s.decRes ++ ws ∧ t.decOut = s.decOut ++ ws.map DecOut.word

theorem carriesItsWords_refl (s : State) : CarriesItsWords s s [] :=
  ⟨(List.append_nil _).symm, (List.append_nil _).symm⟩

theorem CarriesItsWords.trans {s t u : State} {ws vs : List Word} (hst : CarriesItsWords s t ws)
    (htu : CarriesItsWords t u vs) : CarriesItsWords s u (ws ++ vs) := by
  obtain ⟨hres, hout⟩ := hst
  obtain ⟨hres', hout'⟩ := htu
  exact ⟨by rw [hres', hres, List.append_assoc], by rw [hout', hout, List.map_append, List.append_assoc]⟩

theorem CarriesItsWords.congr {s t u : State} {ws : List Word} (h : CarriesItsWords s t ws) (hsame : sameDec u t) :
    CarriesItsWords s u ws := by
  obtain ⟨hres, hout⟩ := h
  obtain ⟨-, -, -, hres', hout'⟩ := hsame
  exact ⟨hres'.trans hres, hout'.trans hout⟩

/-- What the words carried are can be read off `DEC.RES`. -/
theorem CarriesItsWords.decOut_eq {s t : State} {ws vs : List Word} (h : CarriesItsWords s t ws)
    (hres : t.decRes = s.decRes ++ vs) : t.decOut = s.decOut ++ vs.map DecOut.word := by
  obtain ⟨hws, hout⟩ := h
  rw [hws] at hres
  rw [hout, List.append_cancel_left hres]

theorem takeChar_carriesItsWords (c : CharCode) (s : State) : ∃ ws, CarriesItsWords s (takeChar c s) ws := by
  obtain ⟨-, h⟩ | ⟨-, -, h⟩ | ⟨v, -, -, -, h⟩ | ⟨v, -, -, -, h⟩ := takeChar_cases c s <;> rw [h]
  · exact ⟨[], carriesItsWords_refl s⟩
  · exact ⟨[], carriesItsWords_refl s⟩
  · exact ⟨[], carriesItsWords_refl s⟩
  · exact ⟨[_], rfl, rfl⟩

/-! ## The characters of a string -/

/-- The characters of a string, all taken. -/
def takeChars (cs : List CharCode) (s : State) : State := cs.foldl (fun t c => takeChar c t) s

theorem takeChars_cons (c : CharCode) (cs : List CharCode) (s : State) :
    takeChars (c :: cs) s = takeChars cs (takeChar c s) := rfl

theorem dsOf_takeChars (cs : List CharCode) (s : State) : dsOf (takeChars cs s) = cs.foldl stepChar (dsOf s) := by
  induction cs generalizing s with
  | nil => rfl
  | cons c cs ih => rw [takeChars_cons, ih, dsOf_takeChar, List.foldl_cons]

theorem takeChars_carriesItsWords (cs : List CharCode) (s : State) : ∃ ws, CarriesItsWords s (takeChars cs s) ws := by
  induction cs generalizing s with
  | nil => exact ⟨[], carriesItsWords_refl s⟩
  | cons c cs ih =>
    obtain ⟨ws, hws⟩ := takeChar_carriesItsWords c s
    obtain ⟨vs, hvs⟩ := ih (takeChar c s)
    exact ⟨ws ++ vs, hws.trans hvs⟩

theorem offerString_eq {s : State} (hhost : hostTakesDecOut s) (cs : List CharCode) :
    offerString cs s = takeEos (takeChars cs s) := by
  induction cs generalizing s with
  | nil => exact offerEos_taken hhost
  | cons c cs ih =>
    have hnext : hostTakesDecOut (takeChar c s) := by
      rw [hostTakesDecOut, takeChar_pins]
      exact hhost
    rw [offerString, if_pos (decTakes_of_hostTakesDecOut hhost false c), ih hnext, takeChars_cons]

/-! ## A string and its end -/

theorem decResult_words (ws : List Word) (ok : Bool) :
    decResult (ws.map DecOut.word ++ [.done ok]) = if ok then some ws else none := by
  induction ws with
  | nil => rfl
  | cons w ws ih =>
    rw [List.map_cons, List.cons_append, decResult, ih]
    cases ok <;> rfl

/-- The verdict and the words of a string are `Finish` of the decoder's registers. -/
theorem finish_dsOf (s : State) : finish (dsOf s) = if verdict s then some s.decRes else none := by
  cases hfail : s.decFail <;> by_cases hshift : s.decShift = 0#6 <;>
    simp [finish, dsOf, verdict, decOpen, hfail, hshift]

theorem dsOf_eq_ds0 {s : State} (hstart : atGroupStart s) (hres : s.decRes = []) : dsOf s = ds0 := by
  obtain ⟨hvalue, hshift, hfail⟩ := hstart
  rw [dsOf, hvalue, hshift, hfail, hres, ds0]

theorem exec_decode (cs : List CharCode) (s : State) : exec (.decode cs) s = .next (offerString cs s) := rfl

/-- A whole string changes nothing but the tokens carried. -/
theorem offerString_eq_decOut {s : State} (hstart : atGroupStart s) (hres : s.decRes = []) (hhost : hostTakesDecOut s)
    (cs : List CharCode) :
    offerString cs s = { s with decOut := (takeEos (takeChars cs s)).decOut } := by
  obtain ⟨hvalue, hshift, hfail⟩ := hstart
  obtain ⟨hu, hbusy, htrace, hpins, hscript⟩ := offerString_frame cs s
  rw [offerString_eq hhost] at hu hbusy htrace hpins hscript ⊢
  rw [← hu, ← hbusy, ← htrace, ← hpins, ← hscript, hvalue, hshift, hfail, hres]
  rfl

/-- Settles O31: the characters fold `StepChar` and carry the words, and the end mark reports `Finish`. -/
theorem decodeRunsItsString : Obligations.DecodeRunsItsString := fun cs s hstart hres hhost => by
  obtain ⟨ws, hwords, hout⟩ := takeChars_carriesItsWords cs s
  refine ⟨ws, verdict (takeChars cs s), ?_, ?_⟩
  · rw [exec_decode, offerString_eq_decOut hstart hres hhost, takeEos_decOut, hout, List.append_assoc]
  · rw [decResult_words, decodeStr, ← dsOf_eq_ds0 hstart hres, ← dsOf_takeChars, finish_dsOf, hwords, hres,
      List.nil_append]

/-- Settles O34: the end mark leaves DEC at the start of a string, whatever came before. -/
theorem stringsAreIndependent : Obligations.StringsAreIndependent := fun s ignored cs hhost => by
  have hhost' : hostTakesDecOut (takeEos s) := hhost
  obtain ⟨ws, ok, hexec, hresult⟩ := decodeRunsItsString cs (takeEos s) ⟨rfl, rfl, rfl⟩ rfl hhost'
  exact ⟨takeEos s, _, ws, ok, by rw [exec_decEos, offerEos_taken hhost], hexec, rfl, hresult⟩

end Sys2Proof.Proofs.Strings

/-! One clock edge (20_memory.md R33 to R35, R39; 70_reset_and_hazards.md R121). Each agent's step reads and writes what that agent owns
and reads its own wires; the statements about edges speak of one agent at a time. -/

namespace Sys2Proof.Proofs.Edges

open Sys2Proof Sys2Proof.Machine Sys2Proof.Laws Sys2Proof.Proofs.Roms Sys2Proof.Proofs.CharSteps
  Sys2Proof.Proofs.CodecLaws Sys2Proof.Proofs.BadCharacter Sys2Proof.Proofs.EncoderOps Sys2Proof.Proofs.DecoderOps

/-! ## What the agents leave unchanged -/

/-- Everything ENC's step can do: send a digit, take the integer offered, or, where none is transferred, nothing. -/
theorem encStep_cases (s : State) :
    (s.encBusy = true ∧ emitEnabled s = true ∧ encStep s = emitDigit s) ∨
    (s.encBusy = false ∧ (s.pins.encInValid && encInReady s) = true ∧ encStep s = acceptWord s.pins.encInData s) ∨
    ((s.pins.encInValid && encInReady s) = false ∧ encStep s = s) := by
  unfold encStep
  cases hbusy : s.encBusy with
  | true =>
    obtain ⟨henabled, h⟩ | ⟨-, h⟩ := tryEmit_cases s
    · exact .inl ⟨rfl, henabled, h⟩
    · exact .inr (.inr ⟨by simp [encInReady, hbusy], h⟩)
  | false =>
    cases hvalid : s.pins.encInValid with
    | false => exact .inr (.inr ⟨rfl, rfl⟩)
    | true =>
      obtain ⟨hready, h⟩ | ⟨hready, h⟩ := offerWord_cases s.pins.encInData s
      · exact .inr (.inl ⟨rfl, hready, h⟩)
      · exact .inr (.inr ⟨hready, h⟩)

/-- Everything DEC's step can do: take the token offered, or, where none is transferred, nothing. -/
theorem decStep_cases (s : State) :
    ((s.pins.decInValid && decTakes s.pins.decInEos s.pins.decInChar s) = true ∧
      decStep s = takeDecIn s.pins.decInEos s.pins.decInChar s) ∨
    ((s.pins.decInValid && decTakes s.pins.decInEos s.pins.decInChar s) = false ∧ decStep s = s) := by
  unfold decStep offerDecIn takeDecIn
  cases hvalid : s.pins.decInValid with
  | false => exact .inr ⟨rfl, rfl⟩
  | true =>
    cases heos : s.pins.decInEos with
    | false =>
      obtain ⟨htakes, h⟩ | ⟨htakes, h⟩ := offerChar_cases s.pins.decInChar s
      · exact .inl ⟨htakes, h⟩
      · exact .inr ⟨htakes, h⟩
    | true =>
      have hchar : decTakes true s.pins.decInChar s = decTakes true 0#8 s := by rw [decTakes_eos, decTakes_eos]
      obtain ⟨htakes, h⟩ | ⟨htakes, h⟩ := offerEos_cases s
      · exact .inl ⟨hchar.trans htakes, h⟩
      · exact .inr ⟨hchar.trans htakes, h⟩

theorem decInValid_of_taken {s : State} (h : (s.pins.decInValid && decTakes s.pins.decInEos s.pins.decInChar s) = true) :
    s.pins.decInValid = true :=
  (Bool.and_eq_true_iff.mp h).1

theorem sameDec_refl (s : State) : sameDec s s := ⟨rfl, rfl, rfl, rfl, rfl⟩

theorem sameEnc_refl (s : State) : sameEnc s s := ⟨rfl, rfl, rfl⟩

theorem sameEnc_trans {s t u : State} (hst : sameEnc s t) (htu : sameEnc t u) : sameEnc s u := by
  obtain ⟨hu, hbusy, htrace⟩ := hst
  obtain ⟨hu', hbusy', htrace'⟩ := htu
  exact ⟨hu.trans hu', hbusy.trans hbusy', htrace.trans htrace'⟩

theorem sameDec_trans {s t u : State} (hst : sameDec s t) (htu : sameDec t u) : sameDec s u := by
  obtain ⟨hvalue, hshift, hfail, hres, hout⟩ := hst
  obtain ⟨hvalue', hshift', hfail', hres', hout'⟩ := htu
  exact ⟨hvalue.trans hvalue', hshift.trans hshift', hfail.trans hfail', hres.trans hres', hout.trans hout'⟩

/-- ENC's step touches nothing of DEC and nothing of the host. -/
theorem encStep_frame (s : State) : sameDec (encStep s) s ∧ (encStep s).pins = s.pins ∧ (encStep s).script = s.script := by
  obtain ⟨-, -, h⟩ | ⟨-, -, h⟩ | ⟨-, h⟩ := encStep_cases s <;> rw [h] <;> exact ⟨⟨rfl, rfl, rfl, rfl, rfl⟩, rfl, rfl⟩

/-- DEC's step touches nothing of ENC and nothing of the host. -/
theorem decStep_frame (s : State) : sameEnc (decStep s) s ∧ (decStep s).pins = s.pins ∧ (decStep s).script = s.script := by
  obtain ⟨-, h⟩ | ⟨-, h⟩ := decStep_cases s
  · rw [h, takeDecIn]
    split
    · exact ⟨⟨rfl, rfl, rfl⟩, rfl, rfl⟩
    · obtain ⟨hu, hbusy, htrace, hpins, hscript⟩ := takeChar_frame s.pins.decInChar s
      exact ⟨⟨hu, hbusy, htrace⟩, hpins, hscript⟩
  · rw [h]
    exact ⟨sameEnc_refl s, rfl, rfl⟩

/-! ## An agent's step is a function of what the agent owns and of its wires -/

/-- The wires of DEC are the same in both states. -/
def SameDecPins (s t : State) : Prop :=
  s.pins.rst = t.pins.rst ∧ s.pins.decInValid = t.pins.decInValid ∧ s.pins.decInEos = t.pins.decInEos ∧
    s.pins.decInChar = t.pins.decInChar ∧ s.pins.decOutReady = t.pins.decOutReady

/-- The wires of ENC are the same in both states. -/
def SameEncPins (s t : State) : Prop :=
  s.pins.rst = t.pins.rst ∧ s.pins.encInValid = t.pins.encInValid ∧ s.pins.encInData = t.pins.encInData ∧
    s.pins.encOutReady = t.pins.encOutReady

theorem encOutToken_congr {s t : State} (h : s.encU = t.encU) : encOutToken s = encOutToken t := by
  rw [encOutToken, encOutToken, h]

theorem encStep_congr {s t : State} (hst : sameEnc s t) (hpins : SameEncPins s t) : sameEnc (encStep s) (encStep t) := by
  obtain ⟨hu, hbusy, htrace⟩ := hst
  obtain ⟨hrst, hvalid, hdata, hready⟩ := hpins
  have henabled : emitEnabled s = emitEnabled t := by
    rw [emitEnabled, emitEnabled, encOutValid, encOutValid, hrst, hbusy, hready]
  have hin : encInReady s = encInReady t := by rw [encInReady, encInReady, hrst, hbusy]
  simp only [encStep, tryEmit, offerWord, hbusy, hvalid, henabled, hin]
  split_ifs
  · exact ⟨congrArg restOf hu, congrArg moreAfter hu, by rw [emitDigit_encTrace, emitDigit_encTrace, htrace, encOutToken_congr hu]⟩
  · exact ⟨hu, hbusy, htrace⟩
  · exact ⟨congrArg zz hdata, rfl, htrace⟩
  · exact ⟨hu, hbusy, htrace⟩
  · exact ⟨hu, hbusy, htrace⟩

theorem verdict_congr {s t : State} (hst : sameDec s t) : verdict s = verdict t := by
  obtain ⟨-, hshift, hfail, -, -⟩ := hst
  rw [verdict, verdict, decOpen, decOpen, hshift, hfail]

theorem emission_congr {s t : State} (hst : sameDec s t) (eos : Bool) (c : CharCode) : emission eos c s = emission eos c t := by
  have hverdict := verdict_congr hst
  obtain ⟨hvalue, hshift, hfail, -, -⟩ := hst
  rw [emission, emission, hverdict, charEmission, charEmission, hvalue, hshift, hfail]

theorem takeChar_congr {s t : State} (hst : sameDec s t) (c : CharCode) : sameDec (takeChar c s) (takeChar c t) := by
  have hsame := hst
  obtain ⟨hvalue, hshift, hfail, hres, hout⟩ := hst
  obtain ⟨hf, h⟩ | ⟨hf, hc, h⟩ | ⟨v, hf, hc, hv, h⟩ | ⟨v, hf, hc, hv, h⟩ := takeChar_cases c s
  · rw [h, takeChar_failed c t (hfail ▸ hf)]
    exact hsame
  · rw [h, takeChar_bad c t (hfail ▸ hf) hc]
    exact ⟨hvalue, hshift, rfl, hres, hout⟩
  · rw [h, takeChar_continues c t v (hfail ▸ hf) hc hv]
    exact ⟨by rw [hvalue, hshift], by rw [hshift], hfail, hres, hout⟩
  · rw [h, takeChar_ends c t v (hfail ▸ hf) hc hv, hvalue, hshift]
    exact ⟨rfl, rfl, hfail, by rw [clearGroup_decRes, clearGroup_decRes, emitWord_decRes, emitWord_decRes, hres],
      by rw [clearGroup_decOut, clearGroup_decOut, emitWord_decOut, emitWord_decOut, hout]⟩

theorem takeEos_congr {s t : State} (hst : sameDec s t) : sameDec (takeEos s) (takeEos t) := by
  have hverdict := verdict_congr hst
  obtain ⟨-, -, -, -, hout⟩ := hst
  exact ⟨rfl, rfl, rfl, rfl, by rw [takeEos_decOut, takeEos_decOut, hout, hverdict]⟩

theorem decTakes_congr {s t : State} (hst : sameDec s t) (hrst : s.pins.rst = t.pins.rst)
    (hready : s.pins.decOutReady = t.pins.decOutReady) (eos : Bool) (c : CharCode) :
    decTakes eos c s = decTakes eos c t := by
  rw [decTakes, decTakes, emission_congr hst, hrst, hready]

theorem decStep_congr {s t : State} (hst : sameDec s t) (hpins : SameDecPins s t) : sameDec (decStep s) (decStep t) := by
  obtain ⟨hrst, hvalid, heos, hchar, hready⟩ := hpins
  have htakes (eos : Bool) (c : CharCode) := decTakes_congr hst hrst hready eos c
  simp only [decStep, offerDecIn, offerEos, offerChar, hvalid, heos, hchar, htakes]
  split_ifs
  · exact takeEos_congr hst
  · exact hst
  · exact takeChar_congr hst _
  · exact hst
  · exact hst

/-! ## An edge, for one agent at a time -/

theorem afterEdge_sameEnc {p : Pins} (hrst : p.rst = false) (s : State) : sameEnc (afterEdge p s) (encStep (s.drive p)) := by
  rw [afterEdge_eq, hrst, if_neg Bool.false_ne_true]
  exact (decStep_frame _).1

theorem afterEdge_sameDec {p : Pins} (hrst : p.rst = false) (s : State) : sameDec (afterEdge p s) (decStep (s.drive p)) := by
  obtain ⟨hsame, hpins, -⟩ := encStep_frame (s.drive p)
  rw [afterEdge_eq, hrst, if_neg Bool.false_ne_true]
  exact decStep_congr hsame (by rw [SameDecPins, hpins]; exact ⟨rfl, rfl, rfl, rfl, rfl⟩)

theorem edge_eq_afterEdge (p : Pins) (s : State) : edge p s = .next (afterEdge p s) := by
  rw [edge_eq, afterEdge_eq]

/-- Settles O52: each agent's part of the next state is that agent's step on its own part. -/
theorem agentsDoNotInterfere : Obligations.AgentsDoNotInterfere := fun p q s t hrst => by
  refine ⟨afterEdge p s, afterEdge q t, edge_eq_afterEdge p s, edge_eq_afterEdge q t, ?enc, ?dec⟩
  case enc =>
    intro hst hvalid hdata hready
    cases hp : p.rst with
    | true =>
      rw [afterEdge_eq, afterEdge_eq, ← hrst, hp, if_pos rfl, if_pos rfl]
      exact ⟨rfl, rfl, rfl⟩
    | false =>
      have hs := afterEdge_sameEnc hp s
      have ht := afterEdge_sameEnc (hrst ▸ hp) t
      have hstep : sameEnc (encStep (s.drive p)) (encStep (t.drive q)) := encStep_congr hst ⟨hrst, hvalid, hdata, hready⟩
      obtain ⟨hu, hbusy, htrace⟩ := ht
      exact sameEnc_trans hs (sameEnc_trans hstep ⟨hu.symm, hbusy.symm, htrace.symm⟩)
  case dec =>
    intro hst hvalid heos hchar hready
    cases hp : p.rst with
    | true =>
      rw [afterEdge_eq, afterEdge_eq, ← hrst, hp, if_pos rfl, if_pos rfl]
      exact ⟨rfl, rfl, rfl, rfl, rfl⟩
    | false =>
      have hs := afterEdge_sameDec hp s
      have ht := afterEdge_sameDec (hrst ▸ hp) t
      have hstep : sameDec (decStep (s.drive p)) (decStep (t.drive q)) :=
        decStep_congr hst ⟨hrst, hvalid, heos, hchar, hready⟩
      obtain ⟨hvalue, hshift, hfail, hres, hout⟩ := ht
      exact sameDec_trans hs (sameDec_trans hstep ⟨hvalue.symm, hshift.symm, hfail.symm, hres.symm, hout.symm⟩)

/-! ## Waiting, freezing and failing -/

theorem encStep_waits {s : State} (hbusy : s.encBusy = true) (hready : s.pins.encOutReady = false) : encStep s = s := by
  rw [encStep, if_pos hbusy, tryEmit_disabled (emitEnabled_eq_false (.inr (.inl hready)))]

theorem decStep_waits {s : State} (h : decTakes s.pins.decInEos s.pins.decInChar s = false) : decStep s = s := by
  obtain ⟨htaken, -⟩ | ⟨-, hstays⟩ := decStep_cases s
  · rw [h, Bool.and_false] at htaken
    exact absurd htaken Bool.false_ne_true
  · exact hstays

/-- Settles O53: the step of an agent whose output is not taken is not enabled. -/
theorem agentsWaitForTheHost : Obligations.AgentsWaitForTheHost := by
  refine ⟨fun p s hrst hbusy hready => ?enc, fun p s hrst hvalid hready hout => ?dec⟩
  case enc =>
    have hsame := afterEdge_sameEnc hrst s
    rw [encStep_waits (s := s.drive p) hbusy hready] at hsame
    exact ⟨afterEdge p s, edge_eq_afterEdge p s, hsame, encOutToken_congr hsame.1⟩
  case dec =>
    have hemission : emission p.decInEos p.decInChar (s.drive p) = emission p.decInEos p.decInChar s :=
      emission_congr (sameDec_refl s) _ _
    have hsame := afterEdge_sameDec hrst s
    rw [decStep_waits (s := s.drive p) (decTakes_waits (hemission ▸ hout) hready)] at hsame
    exact ⟨afterEdge p s, edge_eq_afterEdge p s, hsame, by rw [← hemission]; exact decOutOffered_of_valid hrst hvalid⟩

/-- Settles O50: of a failed string DEC takes characters only, and they do nothing. -/
theorem failedDecoderIsFrozen : Obligations.FailedDecoderIsFrozen := fun p s hfail hrst hno => by
  have hstays : decStep (s.drive p) = s.drive p := by
    obtain ⟨htaken, h⟩ | ⟨-, h⟩ := decStep_cases (s.drive p)
    · have heos : (s.drive p).pins.decInEos = false := by
        have hvalid : p.decInValid = true := decInValid_of_taken htaken
        rwa [hvalid, Bool.true_and] at hno
      rw [h, takeDecIn, heos, if_neg Bool.false_ne_true, takeChar_failed _ (s.drive p) hfail]
    · exact h
  have hsame := afterEdge_sameDec hrst s
  rw [hstays] at hsame
  exact ⟨afterEdge p s, edge_eq_afterEdge p s, hsame⟩

theorem takeChar_decFail_iff (c : CharCode) (s : State) :
    (takeChar c s).decFail = true ↔ s.decFail = true ∨ (inv c).valid = false := by
  have hds : (takeChar c s).decFail = (stepChar (dsOf s) c).fail := congrArg DS.fail (Strings.dsOf_takeChar c s)
  rw [hds]
  exact DecodeFailure.stepChar_fail_iff (dsOf s) c

/-- Settles O51: of DEC's steps only the one that takes a character can set the flag. -/
theorem onlyBadCharactersSetFail : Obligations.OnlyBadCharactersSetFail := fun p s t hedge hbefore hafter => by
  rw [edge_eq_afterEdge] at hedge
  cases hedge
  cases hrst : p.rst with
  | true =>
    rw [afterEdge_eq, hrst, if_pos rfl] at hafter
    exact absurd hafter Bool.false_ne_true
  | false =>
    obtain ⟨-, -, hfail, -, -⟩ := afterEdge_sameDec hrst s
    rw [hfail] at hafter
    obtain ⟨htaken, h⟩ | ⟨-, h⟩ := decStep_cases (s.drive p)
    · cases heos : p.decInEos with
      | true =>
        rw [h, takeDecIn, drive_pins, heos, if_pos rfl] at hafter
        exact absurd hafter Bool.false_ne_true
      | false =>
        rw [h, takeDecIn, drive_pins, heos, if_neg Bool.false_ne_true, takeChar_decFail_iff, drive_decFail, hbefore] at hafter
        exact ⟨rfl, decInValid_of_taken htaken, rfl, hafter.resolve_left Bool.false_ne_true⟩
    · rw [h, drive_decFail, hbefore] at hafter
      exact absurd hafter Bool.false_ne_true

/-! ## The streams -/

theorem encStep_encTrace (s : State) : ∃ e : Option EncOut, (encStep s).encTrace = s.encTrace ++ e.toList := by
  obtain ⟨-, -, h⟩ | ⟨-, -, h⟩ | ⟨-, h⟩ := encStep_cases s <;> rw [h]
  · exact ⟨some (encOutToken s), rfl⟩
  · exact ⟨none, (List.append_nil _).symm⟩
  · exact ⟨none, (List.append_nil _).symm⟩

theorem takeDecIn_decOut (eos : Bool) (c : CharCode) (s : State) :
    ∃ d : Option DecOut, (takeDecIn eos c s).decOut = s.decOut ++ d.toList := by
  cases eos with
  | true => exact ⟨some (.done (verdict s)), rfl⟩
  | false =>
    rw [takeDecIn, if_neg Bool.false_ne_true]
    obtain ⟨-, h⟩ | ⟨-, -, h⟩ | ⟨v, -, -, -, h⟩ | ⟨v, -, -, -, h⟩ := takeChar_cases c s <;> rw [h]
    · exact ⟨none, (List.append_nil _).symm⟩
    · exact ⟨none, (List.append_nil _).symm⟩
    · exact ⟨none, (List.append_nil _).symm⟩
    · exact ⟨some (.word _), rfl⟩

theorem decStep_decOut (s : State) : ∃ d : Option DecOut, (decStep s).decOut = s.decOut ++ d.toList := by
  obtain ⟨-, h⟩ | ⟨-, h⟩ := decStep_cases s <;> rw [h]
  · exact takeDecIn_decOut _ _ s
  · exact ⟨none, (List.append_nil _).symm⟩

/-- Settles O54: each agent's step carries at most one token. -/
theorem streamsOnlyGrow : Obligations.StreamsOnlyGrow := fun p s hrst => by
  obtain ⟨e, he⟩ := encStep_encTrace (s.drive p)
  obtain ⟨d, hd⟩ := decStep_decOut (s.drive p)
  obtain ⟨-, -, htrace⟩ := afterEdge_sameEnc hrst s
  obtain ⟨-, -, -, -, hout⟩ := afterEdge_sameDec hrst s
  exact ⟨afterEdge p s, e, d, edge_eq_afterEdge p s, htrace.trans he, hout.trans hd⟩

/-! ## Reset -/

/-- Settles O46: with `rst` = 1 the edge is the reset, and every handshake output has the wire in it. -/
theorem resetEdge : Obligations.ResetEdge := fun p s hrst => by
  refine ⟨?edge, ?encIn, ?encOut, ?decIn, ?decOut⟩
  case edge => rw [edge_eq, hrst, if_pos rfl]; rfl
  case encIn => simp [encInReady, hrst]
  case encOut => simp [encOutValid, hrst]
  case decIn => simp [decInReady, hrst]
  case decOut => simp [decOutValid, decOutOffered, hrst]

/-- Settles O47: the registers by definition, the handshake outputs from an idle ENC and an empty DEC. -/
theorem stateAfterReset : Obligations.StateAfterReset := by
  refine ⟨rfl, rfl, rfl, rfl, rfl, rfl, rfl, rfl, fun p hrst => ⟨?encIn, ?encOut, fun hvalid => ?decOut, fun hvalid => ?decIn⟩⟩
  case encIn => exact (encInReady_iff _).mpr ⟨rfl, hrst⟩
  case encOut => simp [encOutValid, State.reset]
  case decOut => simp [decOutValid, decOutOffered, hvalid]
  case decIn =>
    have hemission := emission_congr (s := State.reset.drive p) (sameDec_refl State.reset)
    rw [decInReady, drive_pins, hrst, if_neg Bool.false_ne_true, if_pos hvalid, decTakes, hemission, drive_pins, hrst,
      Bool.not_false, Bool.true_and]

/-- Settles O48: every record is empty and every register 0. -/
theorem resetMeetsInvariant : Obligations.ResetMeetsInvariant := by
  refine ⟨⟨by decide, fun _ => rfl, fun _ => by decide⟩, fun _ => rfl, fun t ht => absurd ht List.not_mem_nil, rfl⟩

end Sys2Proof.Proofs.Edges

/-! Instructions and steps (60_exceptions.md R115; 10_state.md R27). Every instruction is one of eight uses of the block's operations, so
what the four bodies of steps keep, every instruction keeps, and so does every clock edge. -/

namespace Sys2Proof.Proofs.Instructions

open Sys2Proof Sys2Proof.Machine Sys2Proof.Laws

/-! ## What an instruction can do -/

/-- Everything an instruction can do: words, one step of ENC, a string, one token of DEC, or the transfer of an output token. -/
theorem exec_cases (i : Instr) (s : State) :
    (∃ ns : List Word, exec i s = .next (ns.foldl (fun t n => runWord n t) s)) ∨
    (∃ n, exec i s = .next (offerWord n s)) ∨
    exec i s = .next (tryEmit s) ∨
    (∃ cs, exec i s = .next (offerString cs s)) ∨
    (∃ c, exec i s = .next (offerChar c s)) ∨
    exec i s = .next (offerEos s) ∨
    (∃ t, exec i s = .next (crossEncOut t s)) ∨
    ∃ t, exec i s = .next (crossDecOut t s) := by
  cases i with
  | encWord n => exact .inl ⟨[n], rfl⟩
  | encode ns => exact .inl ⟨ns, rfl⟩
  | encode1 n => exact .inl ⟨[n], rfl⟩
  | encAccept n => exact .inr (.inl ⟨n, rfl⟩)
  | encEmit => exact .inr (.inr (.inl rfl))
  | decode cs => exact .inr (.inr (.inr (.inl ⟨cs, rfl⟩)))
  | decEos c => exact .inr (.inr (.inr (.inr (.inr (.inl rfl)))))
  | charToken last c => exact .inr (.inr (.inr (.inr (.inr (.inr (.inl ⟨_, rfl⟩))))))
  | wordToken d => exact .inr (.inr (.inr (.inr (.inr (.inr (.inr ⟨_, rfl⟩))))))
  | doneToken ok => exact .inr (.inr (.inr (.inr (.inr (.inr (.inr ⟨_, rfl⟩))))))
  | _ => exact .inr (.inr (.inr (.inr (.inl ⟨_, rfl⟩))))

theorem exec_answers (i : Instr) (s : State) : ∃ t, exec i s = .next t := by
  obtain ⟨_, h⟩ | ⟨_, h⟩ | h | ⟨_, h⟩ | ⟨_, h⟩ | h | ⟨_, h⟩ | ⟨_, h⟩ := exec_cases i s <;> exact ⟨_, h⟩

theorem edge_answers (p : Pins) (s : State) : ∃ t, edge p s = .next t :=
  ⟨_, edge_eq p s⟩

/-- Settles O45: a step is an edge, an instruction, or the refusal of bits that are no token. -/
theorem blockNeverStops : Obligations.BlockNeverStops := by
  refine ⟨exec_answers, edge_answers, fun s htokens => ?_⟩
  obtain ⟨p, rest, h⟩ | ⟨t, rest, i, -, -, h⟩ | ⟨t, rest, e, herror, hscript, -⟩ := step_cases s
  · rw [h]
    exact edge_answers p _
  · rw [h]
    exact exec_answers i _
  · obtain ⟨i, hok⟩ := htokens t rest hscript
    rw [herror] at hok
    cases hok

/-- DEC's step at an edge runs what the token on its wires decodes to. -/
theorem decSide_of_pins {s : State} {p : Pins} (hpins : s.pins = p) :
    decSide s = if p.decInValid then exec (decodeDecIn (decInBits p.decInEos p.decInChar)) s else .next s := by
  rw [decSide, hpins]
  rfl

/-- An edge without reset, DEC reading the wires of the period, which ENC's step leaves. -/
theorem edge_of_rst_eq_false {p : Pins} (hrst : p.rst = false) (s : State) :
    edge p s = andThen (encSide (s.drive p)) fun s1 =>
      if p.decInValid then exec (decodeDecIn (decInBits p.decInEos p.decInChar)) s1 else .next s1 := by
  obtain ⟨-, hpins, -⟩ := Edges.encStep_frame (s.drive p)
  rw [edge, hrst, if_neg Bool.false_ne_true, encSide_eq, andThen, andThen, decSide_of_pins hpins, drive_pins]

/-- Settles O44: by the script's next move. -/
theorem stepRunsDecoded : Obligations.StepRunsDecoded := by
  refine ⟨fun s t rest i hscript hdecode => ?token, fun s p rest hscript hrst => ?period,
    fun s t rest e hscript hdecode => ?noToken⟩
  case token => rw [step_token s t rest hscript, serve, hdecode]; rfl
  case period => rw [step_period s p rest hscript, edge_of_rst_eq_false hrst]; rfl
  case noToken => rw [step_token s t rest hscript, serve, hdecode]; rfl

/-- Settles O55: an idle ENC and a DEC that are offered nothing do nothing. -/
theorem finishedRunStays : Obligations.FinishedRunStays := fun s hscript hidle => by
  have henc : encStep (s.drive Pins.idle) = s.drive Pins.idle := by
    rw [encStep, drive_encBusy, hidle, if_neg Bool.false_ne_true]
    rfl
  have hedge : edge Pins.idle s = .next (s.drive Pins.idle) := by
    rw [edge_eq, henc]
    rfl
  refine ⟨s.drive Pins.idle, ?_, Edges.sameEnc_refl s, Edges.sameDec_refl s, hscript⟩
  rw [step_idle s hscript, hedge]

end Sys2Proof.Proofs.Instructions

/-! The invariants (10_state.md R27; 30_encoding.md R50; 10_state.md R20). The four bodies of steps keep them, and so does every step. -/

namespace Sys2Proof.Proofs.Invariants

open Sys2Proof Sys2Proof.Machine Sys2Proof.Laws Sys2Proof.Proofs.Digits Sys2Proof.Proofs.Symbols
  Sys2Proof.Proofs.RoundTrip Sys2Proof.Proofs.GroupDigits Sys2Proof.Proofs.Accumulator Sys2Proof.Proofs.DecodeFailure
  Sys2Proof.Proofs.EncoderOps Sys2Proof.Proofs.Edges Sys2Proof.Proofs.Instructions

/-! ## From the bodies of the steps to every step -/

/-- The bodies of the four steps keep `P`. -/
structure KeptByBodies (P : State → Prop) : Prop where
  accept : ∀ (n : Word) (s : State), P s → P (acceptWord n s)
  emit : ∀ s : State, P s → P (emitDigit s)
  char : ∀ (c : CharCode) (s : State), P s → P (takeChar c s)
  eos : ∀ s : State, P s → P (takeEos s)

namespace KeptByBodies

variable {P : State → Prop}

theorem offerWord (hP : KeptByBodies P) (n : Word) {s : State} (hs : P s) : P (offerWord n s) := by
  obtain ⟨-, h⟩ | ⟨-, h⟩ := offerWord_cases n s <;> rw [h]
  · exact hP.accept n s hs
  · exact hs

theorem tryEmit (hP : KeptByBodies P) {s : State} (hs : P s) : P (tryEmit s) := by
  obtain ⟨-, h⟩ | ⟨-, h⟩ := tryEmit_cases s <;> rw [h]
  · exact hP.emit s hs
  · exact hs

theorem emitUpTo (hP : KeptByBodies P) (k : Nat) {s : State} (hs : P s) : P (emitUpTo k s) := by
  induction k generalizing s with
  | zero => exact hs
  | succ k ih =>
    cases h : emitEnabled s with
    | false => rwa [emitUpTo_disabled _ s h]
    | true =>
      rw [emitUpTo_enabled k s h]
      exact ih (hP.emit s hs)

theorem runWord (hP : KeptByBodies P) (n : Word) {s : State} (hs : P s) : P (runWord n s) :=
  hP.emitUpTo _ (hP.offerWord n (hP.emitUpTo _ hs))

theorem runWords (hP : KeptByBodies P) (ns : List Word) {s : State} (hs : P s) :
    P (ns.foldl (fun t n => Machine.runWord n t) s) := by
  induction ns generalizing s with
  | nil => exact hs
  | cons n ns ih => exact ih (hP.runWord n hs)

theorem offerChar (hP : KeptByBodies P) (c : CharCode) {s : State} (hs : P s) : P (offerChar c s) := by
  obtain ⟨-, h⟩ | ⟨-, h⟩ := offerChar_cases c s <;> rw [h]
  · exact hP.char c s hs
  · exact hs

theorem offerEos (hP : KeptByBodies P) {s : State} (hs : P s) : P (offerEos s) := by
  obtain ⟨-, h⟩ | ⟨-, h⟩ := offerEos_cases s <;> rw [h]
  · exact hP.eos s hs
  · exact hs

theorem offerString (hP : KeptByBodies P) (cs : List CharCode) {s : State} (hs : P s) : P (offerString cs s) := by
  induction cs generalizing s with
  | nil => exact hP.offerEos hs
  | cons c cs ih =>
    rw [Machine.offerString]
    split
    · exact ih (hP.char c s hs)
    · exact hs

theorem takeDecIn (hP : KeptByBodies P) (eos : Bool) (c : CharCode) {s : State} (hs : P s) : P (takeDecIn eos c s) := by
  cases eos with
  | true => exact hP.eos s hs
  | false => exact hP.char c s hs

theorem crossEncOut (hP : KeptByBodies P) (t : EncOut) {s : State} (hs : P s) : P (crossEncOut t s) := by
  rw [Machine.crossEncOut]
  split
  · exact hP.emit s hs
  · exact hs

theorem crossDecOut (hP : KeptByBodies P) (t : DecOut) {s : State} (hs : P s) : P (crossDecOut t s) := by
  rw [Machine.crossDecOut]
  split
  · exact hP.takeDecIn _ _ hs
  · exact hs

/-- Every instruction keeps what the bodies keep. -/
theorem exec (hP : KeptByBodies P) {i : Instr} {s t : State} (h : exec i s = .next t) (hs : P s) : P t := by
  obtain ⟨ns, hi⟩ | ⟨n, hi⟩ | hi | ⟨cs, hi⟩ | ⟨c, hi⟩ | hi | ⟨o, hi⟩ | ⟨o, hi⟩ := exec_cases i s <;> rw [hi] at h <;> cases h
  · exact hP.runWords ns hs
  · exact hP.offerWord n hs
  · exact hP.tryEmit hs
  · exact hP.offerString cs hs
  · exact hP.offerChar c hs
  · exact hP.offerEos hs
  · exact hP.crossEncOut o hs
  · exact hP.crossDecOut o hs

theorem encStep (hP : KeptByBodies P) {s : State} (hs : P s) : P (encStep s) := by
  obtain ⟨-, -, h⟩ | ⟨-, -, h⟩ | ⟨-, h⟩ := encStep_cases s <;> rw [h]
  · exact hP.emit s hs
  · exact hP.accept _ s hs
  · exact hs

theorem decStep (hP : KeptByBodies P) {s : State} (hs : P s) : P (decStep s) := by
  obtain ⟨-, h⟩ | ⟨-, h⟩ := decStep_cases s <;> rw [h]
  · exact hP.takeDecIn _ _ hs
  · exact hs

/-- An edge without reset keeps what the bodies keep and what does not depend on the host's wires. -/
theorem afterEdge (hP : KeptByBodies P) (hpins : ∀ (s : State) (p : Pins), P s → P (s.drive p)) {p : Pins}
    (hrst : p.rst = false) {s : State} (hs : P s) : P (afterEdge p s) := by
  rw [afterEdge_eq, if_neg (by simp [hrst])]
  exact hP.decStep (hP.encStep (hpins s p hs))

/-- A step keeps what the bodies and the reset keep and what depends neither on the host's wires nor on its script. -/
theorem step (hP : KeptByBodies P) (hreset : ∀ s, P (resetBlock s)) (hpins : ∀ (s : State) (p : Pins), P s → P (s.drive p))
    (hscript : ∀ (s : State) (script : List HostMove), P s → P { s with script := script }) {s t : State}
    (h : step s = .next t) (hs : P s) : P t := by
  obtain ⟨p, rest, hstep⟩ | ⟨tok, rest, i, -, -, hstep⟩ | ⟨tok, rest, e, -, -, hstep⟩ := step_cases s <;> rw [hstep] at h
  · rw [edge_eq_afterEdge] at h
    cases h
    cases hrst : p.rst with
    | true =>
      rw [afterEdge_eq, if_pos hrst]
      exact hreset _
    | false => exact hP.afterEdge hpins hrst (hscript s rest hs)
  · exact hP.exec h (hpins _ _ (hscript s rest hs))
  · cases h

end KeptByBodies

/-! ## The decoder's registers (10_state.md R27 items 1 to 3) -/

theorem legalShift_nextShift {shift : BitVec 6} (h : legalShift shift) : legalShift (nextShift shift) := by
  simp only [List.mem_cons, List.not_mem_nil, or_false, nextShift, Config.payloadBits, Config.shiftSat,
    BitVec.toNat_ofNat] at h ⊢
  omega

theorem decInv_of_zero {s : State} (hvalue : s.decValue = 0#32) (hshift : s.decShift = 0#6) : decInv s := by
  rw [decInv, hvalue, hshift]
  exact ⟨by decide, fun _ => rfl, fun _ => by decide⟩

/-- One continuation digit further, the value is still below the shift. -/
theorem acc_lt_nextShift {value : Word} {shift : BitVec 6} (p : Payload)
    (hvalue : shift.toNat ≤ 30 → value.toNat < 2 ^ shift.toNat) (hnext : (nextShift shift).toNat ≤ 30) :
    (acc value shift p).toNat < 2 ^ (nextShift shift).toNat := by
  have hsum : (nextShift shift).toNat = shift.toNat + 5 ∧ shift.toNat ≤ 25 := by
    simp only [nextShift, Config.payloadBits, Config.shiftSat, BitVec.toNat_ofNat] at hnext ⊢
    omega
  obtain ⟨hadd, hle⟩ := hsum
  have hbelow := hvalue (by omega)
  rw [toNat_acc_of_fits hle hbelow, hadd]
  exact add_payload_lt hbelow p

theorem decInv_takeChar (c : CharCode) {s : State} (hs : decInv s) : decInv (takeChar c s) := by
  obtain ⟨-, h⟩ | ⟨-, -, h⟩ | ⟨v, -, -, -, h⟩ | ⟨v, -, -, -, h⟩ := takeChar_cases c s <;> rw [h]
  · exact hs
  · exact hs
  · obtain ⟨hlegal, -, hvalue⟩ := hs
    exact ⟨legalShift_nextShift hlegal, fun hzero => absurd hzero (nextShift_ne_zero s.decShift),
      acc_lt_nextShift (payloadOf v) hvalue⟩
  · exact decInv_of_zero rfl rfl

theorem decInv_keptByBodies : KeptByBodies decInv where
  accept _ _ hs := hs
  emit _ hs := hs
  char c _ hs := decInv_takeChar c hs
  eos _ _ := decInv_of_zero rfl rfl

/-! ## The encoder's register and its trace (R27 item 4, R50) -/

theorem encInv_keptByBodies : KeptByBodies encInv where
  accept n s _ hidle := absurd hidle (by simp)
  emit s _ hidle := by
    rw [emitDigit_encBusy, moreAfter, bne_eq_false_iff_eq] at hidle
    rw [emitDigit_encU, hidle]
  char c s hs hidle := by
    obtain ⟨hu, hbusy, -, -, -⟩ := takeChar_frame c s
    rw [hu]
    exact hs (hbusy ▸ hidle)
  eos _ hs := hs

theorem encOutLegal_encOutToken (s : State) : encOutLegal (encOutToken s) = true := by
  have hle : (BitVec.ofNat 7 (nextDigit s.encU).toNat).toNat ≤ 63 := by
    rw [toNat_symbol_digit]
    omega
  have hlookup : lookup (encOutToken s).char = some (BitVec.ofNat 7 (nextDigit s.encU).toNat) := lookup_alphaDigit _
  have hcont : contOf (BitVec.ofNat 7 (nextDigit s.encU).toNat) = moreAfter s.encU := contOf_mkDigit _ _
  simp only [encOutLegal, hlookup, hcont, hle, decide_true, Bool.true_and]
  exact beq_self_eq_true _

theorem traceInv_keptByBodies : KeptByBodies traceInv where
  accept _ _ hs := hs
  emit s hs t ht := by
    obtain ht | ht := List.mem_append.mp ht
    · exact hs t ht
    · rw [List.mem_singleton.mp ht]
      exact encOutLegal_encOutToken s
  char c s hs := by
    obtain ⟨-, -, htrace, -, -⟩ := takeChar_frame c s
    rw [traceInv, htrace]
    exact hs
  eos _ hs := hs

/-! ## The words of the open string (R20) -/

theorem resultsFrom_word (opened : List DecOut) (w : Word) (ts : List DecOut) :
    resultsFrom opened (.word w :: ts) = resultsFrom (opened ++ [.word w]) ts := rfl

theorem resultsFrom_done (opened : List DecOut) (ok : Bool) (ts : List DecOut) :
    resultsFrom opened (.done ok :: ts) = ((opened ++ [.done ok]) :: (resultsOf ts).1, (resultsOf ts).2) := rfl

theorem resultsFrom_words (opened : List DecOut) (ws : List Word) (ts : List DecOut) :
    resultsFrom opened (ws.map DecOut.word ++ ts) = resultsFrom (opened ++ ws.map DecOut.word) ts := by
  induction ws generalizing opened with
  | nil => rw [List.map_nil, List.nil_append, List.append_nil]
  | cons w ws ih => rw [List.map_cons, List.cons_append, resultsFrom_word, ih, List.append_assoc, List.singleton_append]

/-- More tokens go on from the words left open. -/
theorem resultsFrom_append_snd (opened ts us : List DecOut) :
    (resultsFrom opened (ts ++ us)).2 = (resultsFrom (resultsFrom opened ts).2 us).2 := by
  induction ts generalizing opened with
  | nil => rfl
  | cons t ts ih =>
    cases t with
    | word w => exact ih (opened ++ [.word w])
    | done ok => exact ih []

theorem resultsOf_append_words (ts : List DecOut) (ws : List Word) :
    (resultsOf (ts ++ ws.map DecOut.word)).2 = (resultsOf ts).2 ++ ws.map DecOut.word := by
  have hwords := resultsFrom_words (resultsOf ts).2 ws []
  rw [List.append_nil] at hwords
  rw [resultsOf, resultsFrom_append_snd, ← resultsOf, hwords]
  rfl

theorem resultsOf_append_done (ts : List DecOut) (ok : Bool) : (resultsOf (ts ++ [.done ok])).2 = [] := by
  rw [resultsOf, resultsFrom_append_snd]
  rfl

theorem resInv_keptByBodies : KeptByBodies resInv where
  accept _ _ hs := hs
  emit _ hs := hs
  char c s hs := by
    obtain ⟨ws, hres, hout⟩ := Strings.takeChar_carriesItsWords c s
    have hopen : s.decRes.map DecOut.word = (resultsOf s.decOut).2 := hs
    rw [resInv, hres, hout, resultsOf_append_words, List.map_append, hopen]
  eos s _ := by
    rw [resInv, takeEos_decRes, takeEos_decOut, resultsOf_append_done, List.map_nil]

/-! ## All of them -/

theorem blockInv_keptByBodies : KeptByBodies blockInv where
  accept n s := fun ⟨hdec, henc, htrace, hres⟩ =>
    ⟨decInv_keptByBodies.accept n s hdec, encInv_keptByBodies.accept n s henc, traceInv_keptByBodies.accept n s htrace,
      resInv_keptByBodies.accept n s hres⟩
  emit s := fun ⟨hdec, henc, htrace, hres⟩ =>
    ⟨decInv_keptByBodies.emit s hdec, encInv_keptByBodies.emit s henc, traceInv_keptByBodies.emit s htrace,
      resInv_keptByBodies.emit s hres⟩
  char c s := fun ⟨hdec, henc, htrace, hres⟩ =>
    ⟨decInv_keptByBodies.char c s hdec, encInv_keptByBodies.char c s henc, traceInv_keptByBodies.char c s htrace,
      resInv_keptByBodies.char c s hres⟩
  eos s := fun ⟨hdec, henc, htrace, hres⟩ =>
    ⟨decInv_keptByBodies.eos s hdec, encInv_keptByBodies.eos s henc, traceInv_keptByBodies.eos s htrace,
      resInv_keptByBodies.eos s hres⟩

theorem blockInv_resetBlock (s : State) : blockInv (resetBlock s) :=
  ⟨decInv_of_zero rfl rfl, fun _ => rfl, fun _ ht => absurd ht List.not_mem_nil, rfl⟩

/-- Settles O49: the bodies of the four steps and the reset keep the invariants, and these speak of the block alone. -/
theorem stepKeepsInvariant : Obligations.StepKeepsInvariant := fun _ _ hs h =>
  blockInv_keptByBodies.step blockInv_resetBlock (fun _ _ hs => hs) (fun _ _ hs => hs) h hs

end Sys2Proof.Proofs.Invariants

/-! Runs of clock periods, ENC's side (42_codec_laws.md R104). What an edge adds to the trace and what ENC holds after it are together
what it held before and the group of the integer taken. -/

namespace Sys2Proof.Proofs.EncoderRuns

open Sys2Proof Sys2Proof.Machine Sys2Proof.Laws Sys2Proof.Proofs.Digits Sys2Proof.Proofs.RoundTrip
  Sys2Proof.Proofs.GroupDigits Sys2Proof.Proofs.CodecLaws Sys2Proof.Proofs.EncoderOps Sys2Proof.Proofs.Edges
  Sys2Proof.Proofs.Invariants

/-! ## The whole `ENC.WORD` and its periods -/

theorem allSent_congr {s t : State} (h : sameEnc s t) : sameEnc (allSent s) (allSent t) := by
  obtain ⟨hu, -, htrace⟩ := h
  exact ⟨rfl, rfl, by rw [allSent, allSent, hu, htrace]⟩

/-- A period in which the host takes the character of a busy ENC is one `ENC.EMIT`. -/
theorem afterEdge_sameEnc_emitDigit {q : Pins} {s : State} (hrst : q.rst = false) (hready : q.encOutReady = true)
    (hbusy : s.encBusy = true) : sameEnc (afterEdge q s) (emitDigit s) := by
  have henabled : emitEnabled (s.drive q) = true := emitEnabled_of_busy hbusy ⟨hrst, hready⟩
  have hstep : encStep (s.drive q) = emitDigit (s.drive q) := by
    rw [encStep, drive_encBusy, if_pos hbusy, tryEmit_enabled henabled]
  have hsame := afterEdge_sameEnc hrst s
  rwa [hstep] at hsame

/-- A period in which an idle ENC is offered an integer is one `ENC.ACCEPT`. -/
theorem afterEdge_sameEnc_acceptWord {p : Pins} {s : State} (hrst : p.rst = false) (hvalid : p.encInValid = true)
    (hidle : s.encBusy = false) : sameEnc (afterEdge p s) (acceptWord p.encInData s) := by
  have hstep : encStep (s.drive p) = acceptWord p.encInData (s.drive p) := by
    rw [encStep, drive_encBusy, if_neg (by simp [hidle]), drive_pins, if_pos hvalid,
      offerWord_idle (s := s.drive p) _ hidle hrst]
  have hsame := afterEdge_sameEnc hrst s
  rwa [hstep] at hsame

/-- As many periods as ENC holds digits send all of them. -/
theorem afterPeriods_allSent (ps : List Pins) {s : State} (hbusy : s.encBusy = true) (hlen : ps.length = groupLen s.encU)
    (hhost : ∀ q ∈ ps, q.rst = false ∧ q.encOutReady = true) : sameEnc (afterPeriods ps s) (allSent s) := by
  induction ps generalizing s with
  | nil => exact absurd (groupLen_pos s.encU) (by rw [← hlen]; exact Nat.lt_irrefl 0)
  | cons q ps ih =>
    obtain ⟨⟨hrst, hready⟩, hhost⟩ := List.forall_mem_cons.mp hhost
    have hemit := afterEdge_sameEnc_emitDigit hrst hready hbusy
    rw [List.length_cons] at hlen
    by_cases h : s.encU.toNat / 32 = 0
    · rw [groupLen_of_div_eq_zero h] at hlen
      obtain rfl : ps = [] := List.length_eq_zero_iff.mp (by omega)
      rwa [allSent_of_last h] at hemit
    · have hmore : (afterEdge q s).encBusy = true := by
        rw [hemit.2.1, emitDigit_encBusy, moreAfter_eq_decide, decide_eq_true h]
      have hrest : ps.length = groupLen (afterEdge q s).encU := by
        rw [groupLen_of_div_ne_zero h] at hlen
        rw [hemit.1, emitDigit_encU]
        omega
      have hsent := allSent_congr hemit
      rw [allSent_of_more h] at hsent
      exact sameEnc_trans (ih hmore hrest hhost) hsent

/-- Settles O56: the first period accepts the integer, and the others send its digits. -/
theorem wordIsItsSteps : Obligations.WordIsItsSteps := fun n p ps s hidle hrst hvalid hdata hlen hhost => by
  have haccept := afterEdge_sameEnc_acceptWord hrst hvalid hidle
  rw [hdata] at haccept
  have hrun := afterPeriods_allSent ps (s := afterEdge p s) haccept.2.1 (by rw [haccept.1]; exact hlen) hhost
  refine ⟨_, exec_encWord n _, ?_⟩
  rw [runWord_idle (s := s.drive { p with encOutReady := true }) n hidle ⟨hrst, rfl⟩]
  exact sameEnc_trans hrun (allSent_congr haccept)

/-! ## Any periods -/

/-- The tokens of what ENC still holds. -/
def heldTokens (s : State) : List EncOut := if s.encBusy then (digits s.encU).map digitToken else []

theorem heldTokens_congr {s t : State} (h : sameEnc s t) : heldTokens s = heldTokens t := by
  obtain ⟨hu, hbusy, -⟩ := h
  rw [heldTokens, heldTokens, hu, hbusy]

theorem heldTokens_busy {s : State} (hbusy : s.encBusy = true) : heldTokens s = (digits s.encU).map digitToken :=
  if_pos hbusy

theorem heldTokens_idle {s : State} (hidle : s.encBusy = false) : heldTokens s = [] :=
  if_neg (by simp [hidle])

/-- `ENC.EMIT` sends the first of the tokens held and holds the others. -/
theorem heldTokens_emitDigit {s : State} (hbusy : s.encBusy = true) :
    heldTokens s = encOutToken s :: heldTokens (emitDigit s) := by
  have hbusy' : (emitDigit s).encBusy = decide (s.encU.toNat / 32 ≠ 0) := by
    rw [emitDigit_encBusy, moreAfter_eq_decide]
  rw [heldTokens_busy hbusy, encOutToken_eq_digitToken]
  by_cases h : s.encU.toNat / 32 = 0
  · rw [heldTokens_idle (hbusy'.trans (decide_eq_false (not_not.mpr h))), digits_of_div_eq_zero h, List.map_singleton]
  · rw [heldTokens_busy (hbusy'.trans (decide_eq_true h)), digits_of_div_ne_zero h, List.map_cons, emitDigit_encU]

/-- The integer transferred on `ENC_IN` in one period, if one is. -/
def takenInts (p : Pins) (s : State) : List Word :=
  if p.encInValid && encInReady (s.drive p) then [p.encInData] else []

theorem intsTaken_cons (p : Pins) (ps : List Pins) (s : State) :
    intsTaken (p :: ps) s = takenInts p s ++ intsTaken ps (afterEdge p s) := rfl

/-- One edge: what it sends and what is held after it are what was held before it and the group of the integer taken. -/
theorem afterEdge_heldTokens {p : Pins} (hrst : p.rst = false) (s : State) :
    ∃ ts, (afterEdge p s).encTrace = s.encTrace ++ ts ∧
      ts ++ heldTokens (afterEdge p s) = heldTokens s ++ (takenInts p s).flatMap groupTokens := by
  have hsame := afterEdge_sameEnc hrst s
  have hheld : heldTokens (s.drive p) = heldTokens s := heldTokens_congr (sameEnc_refl s)
  rw [heldTokens_congr hsame, hsame.2.2, ← hheld]
  obtain ⟨hbusy, -, h⟩ | ⟨hidle, htaken, h⟩ | ⟨htaken, h⟩ := encStep_cases (s.drive p) <;> rw [h]
  · have hwaits : encInReady (s.drive p) = false := by rw [encInReady, hbusy, Bool.not_true, Bool.and_false]
    have hnone : takenInts p s = [] := if_neg (by simp [hwaits])
    exact ⟨[encOutToken (s.drive p)], rfl, by rw [hnone, heldTokens_emitDigit hbusy]; simp⟩
  · have hone : takenInts p s = [p.encInData] := if_pos htaken
    exact ⟨[], (List.append_nil _).symm, by rw [hone, heldTokens_idle hidle, List.flatMap_singleton]; rfl⟩
  · have hnone : takenInts p s = [] := if_neg (by rw [drive_pins] at htaken; simp [htaken])
    exact ⟨[], (List.append_nil _).symm, by rw [hnone, List.flatMap_nil, List.append_nil, List.nil_append]⟩

theorem afterPeriods_heldTokens (ps : List Pins) (s : State) (hrst : ∀ p ∈ ps, p.rst = false) :
    ∃ ts, (afterPeriods ps s).encTrace = s.encTrace ++ ts ∧
      ts ++ heldTokens (afterPeriods ps s) = heldTokens s ++ (intsTaken ps s).flatMap groupTokens := by
  induction ps generalizing s with
  | nil => exact ⟨[], (List.append_nil _).symm, (List.append_nil _).symm⟩
  | cons p ps ih =>
    obtain ⟨hp, hps⟩ := List.forall_mem_cons.mp hrst
    obtain ⟨ts, htrace, hheld⟩ := afterEdge_heldTokens hp s
    obtain ⟨us, htrace', hheld'⟩ := ih (afterEdge p s) hps
    refine ⟨ts ++ us, by rw [afterPeriods, htrace', htrace, List.append_assoc], ?_⟩
    rw [afterPeriods, List.append_assoc, hheld', ← List.append_assoc, hheld, intsTaken_cons, List.flatMap_append,
      List.append_assoc]

theorem afterPeriods_encInv (ps : List Pins) {s : State} (hrst : ∀ p ∈ ps, p.rst = false) (hs : encInv s) :
    encInv (afterPeriods ps s) := by
  induction ps generalizing s with
  | nil => exact hs
  | cons p ps ih =>
    obtain ⟨hp, hps⟩ := List.forall_mem_cons.mp hrst
    exact ih hps (encInv_keptByBodies.afterEdge (fun _ _ h => h) hp hs)

/-- Settles O57: nothing was held before, so the tokens sent and held are the groups of the integers taken. -/
theorem encoderEmitsEncode : Obligations.EncoderEmitsEncode := fun ps s hidle hrst => by
  obtain ⟨ts, htrace, hheld⟩ := afterPeriods_heldTokens ps s hrst
  rw [heldTokens_idle hidle.1, List.nil_append] at hheld
  refine ⟨ts, htrace, hheld, fun hdone => ⟨afterPeriods_encInv ps hrst (fun _ => hidle.2) hdone, ?_⟩⟩
  rw [heldTokens_idle hdone, List.append_nil] at hheld
  rw [hheld, map_char_flatMap_groupTokens]

end Sys2Proof.Proofs.EncoderRuns

/-! Runs of clock periods, DEC's side (42_codec_laws.md R105). The registers are the fold of `StepChar` over the open string, and each
end mark closes a string with its result. -/

namespace Sys2Proof.Proofs.DecoderRuns

open Sys2Proof Sys2Proof.Machine Sys2Proof.Laws Sys2Proof.Proofs.CharSteps Sys2Proof.Proofs.Edges
  Sys2Proof.Proofs.Strings Sys2Proof.Proofs.Invariants

/-- The token transferred on `DEC_IN` in one period, if one is. -/
def takenTokens (p : Pins) (s : State) : List (Bool × CharCode) :=
  if p.decInValid && decTakes p.decInEos p.decInChar (s.drive p) then [(p.decInEos, p.decInChar)] else []

theorem decTokensTaken_cons (p : Pins) (ps : List Pins) (s : State) :
    decTokensTaken (p :: ps) s = takenTokens p s ++ decTokensTaken ps (afterEdge p s) := rfl

theorem takeEos_congr_drive (s : State) (p : Pins) : sameDec (takeEos (s.drive p)) (takeEos s) :=
  takeEos_congr (s := s.drive p) (sameDec_refl s)

theorem takeChar_congr_drive (c : CharCode) (s : State) (p : Pins) : sameDec (takeChar c (s.drive p)) (takeChar c s) :=
  takeChar_congr (s := s.drive p) (sameDec_refl s) c

/-- Everything an edge can do to DEC, with the token that is transferred in its period. -/
theorem afterEdge_dec_cases {p : Pins} (hrst : p.rst = false) (s : State) :
    (takenTokens p s = [] ∧ sameDec (afterEdge p s) s) ∨
    (∃ c, takenTokens p s = [(false, c)] ∧ sameDec (afterEdge p s) (takeChar c s)) ∨
    (∃ c, takenTokens p s = [(true, c)] ∧ sameDec (afterEdge p s) (takeEos s)) := by
  have hsame := afterEdge_sameDec hrst s
  obtain ⟨htaken, h⟩ | ⟨htaken, h⟩ := decStep_cases (s.drive p) <;> rw [h] at hsame
  · have hone : takenTokens p s = [(p.decInEos, p.decInChar)] := if_pos htaken
    cases heos : p.decInEos with
    | false =>
      rw [takeDecIn, drive_pins, heos, if_neg Bool.false_ne_true] at hsame
      exact .inr (.inl ⟨p.decInChar, heos ▸ hone, sameDec_trans hsame (takeChar_congr_drive _ s p)⟩)
    | true =>
      rw [takeDecIn, drive_pins, heos, if_pos rfl] at hsame
      exact .inr (.inr ⟨p.decInChar, heos ▸ hone, sameDec_trans hsame (takeEos_congr_drive s p)⟩)
  · have hnone : takenTokens p s = [] := if_neg (by rw [drive_pins] at htaken; simp [htaken])
    exact .inl ⟨hnone, hsame⟩

theorem stringsFrom_char (opened : List CharCode) (c : CharCode) (ts : List (Bool × CharCode)) :
    stringsFrom opened ((false, c) :: ts) = stringsFrom (opened ++ [c]) ts := rfl

theorem stringsFrom_eos (opened : List CharCode) (c : CharCode) (ts : List (Bool × CharCode)) :
    stringsFrom opened ((true, c) :: ts) = (opened :: (stringsOf ts).1, (stringsOf ts).2) := rfl

/-- A run from the middle of a string: the registers are the fold over the string open at its end, and the tokens carried close each
string with its result, the words of the string open at its start standing in `DEC.RES`. -/
theorem afterPeriods_decode (ps : List Pins) (s : State) (opened : List CharCode) (hds : dsOf s = opened.foldl stepChar ds0)
    (hrst : ∀ p ∈ ps, p.rst = false) :
    dsOf (afterPeriods ps s) = (stringsFrom opened (decTokensTaken ps s)).2.foldl stepChar ds0 ∧
    ∃ ts, (afterPeriods ps s).decOut = s.decOut ++ ts ∧
      (resultsFrom (s.decRes.map DecOut.word) ts).1.map decResult =
        (stringsFrom opened (decTokensTaken ps s)).1.map decodeStr := by
  induction ps generalizing s opened with
  | nil => exact ⟨hds, [], (List.append_nil _).symm, rfl⟩
  | cons p ps ih =>
    obtain ⟨hp, hps⟩ := List.forall_mem_cons.mp hrst
    rw [afterPeriods, decTokensTaken_cons]
    obtain ⟨htaken, hsame⟩ | ⟨c, htaken, hsame⟩ | ⟨c, htaken, hsame⟩ := afterEdge_dec_cases hp s <;> rw [htaken]
    · have hnext := ih (afterEdge p s) opened ((dsOf_congr hsame).trans hds) hps
      obtain ⟨-, -, -, hres, hout⟩ := hsame
      rwa [hres, hout] at hnext
    · obtain ⟨ws, hwords⟩ := takeChar_carriesItsWords c s
      obtain ⟨hres, hout⟩ := hwords.congr hsame
      have hchar : dsOf (afterEdge p s) = (opened ++ [c]).foldl stepChar ds0 := by
        rw [dsOf_congr hsame, dsOf_takeChar, hds, List.foldl_concat]
      obtain ⟨hnext, ts, houts, hresults⟩ := ih (afterEdge p s) (opened ++ [c]) hchar hps
      rw [List.singleton_append, stringsFrom_char]
      refine ⟨hnext, ws.map DecOut.word ++ ts, by rw [houts, hout, List.append_assoc], ?_⟩
      rw [resultsFrom_words, ← List.map_append, ← hres, hresults]
    · obtain ⟨hnext, ts, houts, hresults⟩ := ih (afterEdge p s) [] (dsOf_congr hsame) hps
      obtain ⟨-, -, -, hres, hout⟩ := hsame
      rw [List.singleton_append, stringsFrom_eos]
      refine ⟨hnext, .done (verdict s) :: ts, by rw [houts, hout, takeEos_decOut, List.append_assoc, List.singleton_append], ?_⟩
      have hresult : decResult (s.decRes.map DecOut.word ++ [.done (verdict s)]) = decodeStr opened := by
        rw [decResult_words, ← finish_dsOf, hds, decodeStr]
      rw [hres, takeEos_decRes, List.map_nil] at hresults
      rw [resultsFrom_done, List.map_cons, List.map_cons, hresult, resultsOf, hresults, stringsOf]

/-- Settles O58: the run from the start of a string. -/
theorem decoderComputesDecode : Obligations.DecoderComputesDecode := fun ps s hstart hres hrst => by
  have hrun := afterPeriods_decode ps s [] (dsOf_eq_ds0 hstart hres) hrst
  rwa [hres] at hrun

end Sys2Proof.Proofs.DecoderRuns

/-! The loop (42_codec_laws.md R106). In each looped period DEC takes the very character that ENC sends, so `j` periods are `j` characters
of the group for the decoder. -/

namespace Sys2Proof.Proofs.Loop

open Sys2Proof Sys2Proof.Machine Sys2Proof.Laws Sys2Proof.Proofs.ZigzagInverse Sys2Proof.Proofs.Digits
  Sys2Proof.Proofs.CharSteps Sys2Proof.Proofs.GroupDigits Sys2Proof.Proofs.PartialGroups Sys2Proof.Proofs.DecoderOps
  Sys2Proof.Proofs.Edges Sys2Proof.Proofs.Strings Sys2Proof.Proofs.EncoderRuns Sys2Proof.Proofs.DecoderRuns

/-! ## One period -/

/-- With ENC idle, the period that offers an integer is `ENC.ACCEPT` and nothing for DEC. -/
theorem afterEdge_loopPins_offer (n : Word) {s : State} (hidle : s.encBusy = false) :
    sameEnc (afterEdge (loopPins s (some n)) s) (acceptWord n s) ∧ sameDec (afterEdge (loopPins s (some n)) s) s := by
  refine ⟨afterEdge_sameEnc_acceptWord rfl rfl hidle, ?_⟩
  have hnone : (loopPins s (some n)).decInValid = false := by simp [loopPins, encOutValid, hidle]
  have hsame := afterEdge_sameDec (p := loopPins s (some n)) rfl s
  rwa [decStep, drive_pins, hnone, if_neg Bool.false_ne_true] at hsame

/-- With ENC busy, a looped period is `ENC.EMIT` and `DEC.CHAR` of its character. -/
theorem afterEdge_loopPins_busy {s : State} (hbusy : s.encBusy = true) :
    sameEnc (afterEdge (loopPins s none) s) (emitDigit s) ∧
      sameDec (afterEdge (loopPins s none) s) (takeChar (alphaDigit (nextDigit s.encU)) s) := by
  refine ⟨afterEdge_sameEnc_emitDigit rfl rfl hbusy, ?_⟩
  have hvalid : (loopPins s none).decInValid = true := by simp [loopPins, encOutValid, Pins.idle, hbusy]
  have hchar : (loopPins s none).decInChar = alphaDigit (nextDigit s.encU) := if_pos hbusy
  have hstep : decStep (s.drive (loopPins s none)) =
      takeChar (alphaDigit (nextDigit s.encU)) (s.drive (loopPins s none)) := by
    have hhost : hostTakesDecOut (s.drive (loopPins s none)) := ⟨rfl, rfl⟩
    have heos : (loopPins s none).decInEos = false := rfl
    rw [decStep, drive_pins, if_pos hvalid, offerDecIn, heos, if_neg Bool.false_ne_true, hchar,
      BadCharacter.offerChar_of_decTakes (decTakes_of_hostTakesDecOut hhost false _)]
  have hsame := afterEdge_sameDec (p := loopPins s none) rfl s
  rw [hstep] at hsame
  exact sameDec_trans hsame (takeChar_congr_drive _ s _)

/-! ## The periods of a group -/

/-- After `k` looped periods, at most as many as ENC holds digits, the decoder has read `k` of the digits' characters. -/
theorem loopPeriods_busy (k : Nat) {s : State} (hbusy : s.encBusy = true) (hk : k ≤ groupLen s.encU) :
    dsOf (loopPeriods k s) = (((digits s.encU).map alphaDigit).take k).foldl stepChar (dsOf s) ∧
    (∃ ws, CarriesItsWords s (loopPeriods k s) ws) ∧ (k = groupLen s.encU → encIdle (loopPeriods k s)) := by
  induction k generalizing s with
  | zero => exact ⟨rfl, ⟨[], carriesItsWords_refl s⟩, fun h => absurd (groupLen_pos s.encU) (by omega)⟩
  | succ k ih =>
    obtain ⟨hemit, htake⟩ := afterEdge_loopPins_busy hbusy
    obtain ⟨ws, hws⟩ := takeChar_carriesItsWords (alphaDigit (nextDigit s.encU)) s
    have hword := hws.congr htake
    have hds : dsOf (afterEdge (loopPins s none) s) = stepChar (dsOf s) (alphaDigit (nextDigit s.encU)) := by
      rw [dsOf_congr htake, dsOf_takeChar]
    obtain ⟨hu, hbusy', -⟩ := hemit
    rw [emitDigit_encU] at hu
    rw [emitDigit_encBusy, moreAfter_eq_decide] at hbusy'
    rw [loopPeriods]
    by_cases h : s.encU.toNat / 32 = 0
    · rw [groupLen_of_div_eq_zero h] at hk ⊢
      obtain rfl : k = 0 := by omega
      rw [digits_of_div_eq_zero h]
      refine ⟨hds, ⟨ws, hword⟩, fun _ => ⟨hbusy'.trans (decide_eq_false (not_not.mpr h)), hu.trans ?_⟩⟩
      rw [restOf_eq_ofNat, h]
    · rw [groupLen_of_div_ne_zero h] at hk ⊢
      obtain ⟨hfold, ⟨vs, hvs⟩, hidle⟩ := ih (hbusy'.trans (decide_eq_true h)) (by rw [hu]; omega)
      rw [hu] at hfold hidle
      refine ⟨?_, ⟨ws ++ vs, hword.trans hvs⟩, fun hall => hidle (by omega)⟩
      rw [hfold, hds, digits_of_div_ne_zero h, List.map_cons, List.take_succ_cons, List.foldl_cons]

/-! ## An integer -/

theorem dsOf_atStart {s : State} (h : atGroupStart s) : dsOf s = atStart s.decRes := by
  obtain ⟨hvalue, hshift, hfail⟩ := h
  rw [dsOf, hvalue, hshift, hfail, atStart]

/-- The loop on one integer, but for its last `less` characters. -/
theorem loopWord_spec (n : Word) (less : Nat) {s : State} (hidle : encIdle s) (hstart : atGroupStart s) :
    dsOf (loopWord n less s) = ((encodeGroup n).take (groupLen (zz n) - less)).foldl stepChar (atStart s.decRes) ∧
    (∃ ws, CarriesItsWords s (loopWord n less s) ws) ∧ (less = 0 → encIdle (loopWord n less s)) := by
  obtain ⟨⟨hu, hbusy, -⟩, hdec⟩ := afterEdge_loopPins_offer n hidle.1
  rw [acceptWord_encU] at hu
  obtain ⟨hfold, ⟨ws, hws⟩, hdone⟩ := loopPeriods_busy (groupLen (zz n) - less) hbusy (by rw [hu]; omega)
  rw [hu, dsOf_congr hdec, dsOf_atStart hstart] at hfold
  rw [hu] at hdone
  have hoffer := (carriesItsWords_refl s).congr hdec
  exact ⟨hfold, ⟨[] ++ ws, hoffer.trans hws⟩, fun hless => hdone (by rw [hless, Nat.sub_zero])⟩

/-- Up to the last character but one, nothing is carried. -/
theorem loopWord_before_last (n : Word) {s : State} (hidle : encIdle s) (hstart : atGroupStart s) :
    (loopWord n 1 s).decOut = s.decOut := by
  obtain ⟨hfold, ⟨ws, hws⟩, -⟩ := loopWord_spec n 1 hidle hstart
  have hshort : groupLen (zz n) - 1 < (digits (zz n)).length := by
    rw [length_digits]
    exact Nat.sub_one_lt (groupLen_pos (zz n)).ne'
  rw [encodeGroup, foldl_stepChar_take_digits (zz n) _ hshort (atStart s.decRes) rfl (fits_at_zero (zz n))] at hfold
  have hres : (loopWord n 1 s).decRes = s.decRes ++ [] := (congrArg DS.res hfold).trans (List.append_nil _).symm
  rw [hws.decOut_eq hres, List.map_nil, List.append_nil]

/-- With the last character, the integer is carried, and both agents are where they began. -/
theorem loopWord_whole (n : Word) {s : State} (hidle : encIdle s) (hstart : atGroupStart s) :
    (loopWord n 0 s).decOut = s.decOut ++ [.word n] ∧ (loopWord n 0 s).decRes = s.decRes ++ [n] ∧
      encIdle (loopWord n 0 s) ∧ atGroupStart (loopWord n 0 s) := by
  obtain ⟨hfold, ⟨ws, hws⟩, hdone⟩ := loopWord_spec n 0 hidle hstart
  have hall : (encodeGroup n).take (groupLen (zz n) - 0) = encodeGroup n :=
    List.take_of_length_le (by rw [encodeGroup, List.length_map, length_digits, Nat.sub_zero])
  rw [hall, RoundTrip.foldl_stepChar_encodeGroup] at hfold
  have hres : (loopWord n 0 s).decRes = s.decRes ++ [n] := congrArg DS.res hfold
  exact ⟨hws.decOut_eq hres, hres, hdone rfl, congrArg DS.value hfold, congrArg DS.shift hfold,
    congrArg DS.fail hfold⟩

/-! ## A sequence of integers -/

theorem foldl_loopWord (ns : List Word) {s : State} (hidle : encIdle s) (hstart : atGroupStart s) :
    (ns.foldl (fun t n => loopWord n 0 t) s).decOut = s.decOut ++ ns.map DecOut.word ∧
      atGroupStart (ns.foldl (fun t n => loopWord n 0 t) s) := by
  induction ns generalizing s with
  | nil => exact ⟨(List.append_nil _).symm, hstart⟩
  | cons n ns ih =>
    obtain ⟨hout, -, hidle', hstart'⟩ := loopWord_whole n hidle hstart
    obtain ⟨houts, hend⟩ := ih hidle' hstart'
    exact ⟨by rw [List.foldl_cons, houts, hout, List.map_cons, List.append_assoc, List.singleton_append], hend⟩

/-- A period whose end mark DEC takes is one `DEC.EOS`. -/
theorem afterEdge_sameDec_takeEos {p : Pins} (hrst : p.rst = false) (hvalid : p.decInValid = true) (heos : p.decInEos = true)
    (hready : p.decOutReady = true) (s : State) : sameDec (afterEdge p s) (takeEos s) := by
  have hstep : decStep (s.drive p) = takeEos (s.drive p) := by
    rw [decStep, drive_pins, if_pos hvalid, heos, offerDecIn, if_pos rfl, offerEos_taken (s := s.drive p) ⟨hrst, hready⟩]
  have hsame := afterEdge_sameDec hrst s
  rw [hstep] at hsame
  exact sameDec_trans hsame (takeEos_congr_drive s p)

/-- Settles O59: each integer is carried with the last character of its group, and between groups the verdict is good. -/
theorem loopBack : Obligations.LoopBack := by
  refine ⟨fun n s hidle hstart => ⟨loopWord_before_last n hidle hstart, loopWord_whole n hidle hstart⟩,
    fun ns s p hidle hstart hrst hvalid heos hready => ?_⟩
  obtain ⟨hout, -, hshift, hfail⟩ := foldl_loopWord ns hidle hstart
  obtain ⟨-, -, -, -, hend⟩ :=
    afterEdge_sameDec_takeEos hrst hvalid heos hready (ns.foldl (fun t n => loopWord n 0 t) s)
  rw [hend, takeEos_decOut, hout, verdict_eq_decide, decide_eq_true ⟨hfail, hshift⟩]

end Sys2Proof.Proofs.Loop
